-- ==== Sys2Proof/Word.lean ====
section
/-! DEFINITION. The two word sizes of the machine (00_scope.md R6, R7: `u8` and `u16`). -/

namespace Sys2Proof

/-- `u8`: a register, a memory byte, a port number, an operand byte. -/
abbrev Byte := BitVec 8

/-- `u16`: a register pair, SP, PC, a memory address. Arithmetic on it is modulo 65536 (10_state.md R29, R30). -/
abbrev Addr := BitVec 16

end Sys2Proof
end

