-- ==== Sys2Proof/Config.lean ====
section
/-! DEFINITION. The implementation parameters of 00_scope.md R6: the types of the platform's and the
environment's answers, and the free values (constants without a body, so that no proof can rest on one). -/

namespace Sys2Proof

/-- What is fitted at a memory address (`MemKind`, 20_memory.md R51). -/
inductive MemKind where
  | ram
  | rom
  | none
deriving DecidableEq, Repr

/-- A run of addresses `first..last` (both included) of one kind. -/
structure Region where
  first : Nat
  last : Nat
  kind : MemKind
deriving DecidableEq, Repr

/-- An entry of `IoTrace` (20_memory.md R55, R56). -/
inductive IoEvent where
  | input (port value : Byte)
  | output (port value : Byte)
deriving DecidableEq, Repr

/-- The environment's answers at one instruction boundary: is reset asserted (70_reset_and_hazards.md R300), and is
an interrupt requested, with which restart number (60_exceptions.md R276). -/
structure Boundary where
  reset : Bool
  request : Option (BitVec 3)
deriving DecidableEq, Repr

/-- The platform's fixed parameters, data that no step changes: `MemKind` as a list of regions, the first that holds
an address deciding its kind and RAM where none does (log entry 3), and `UndocAliases` (30_encoding.md R96, log entry 8). -/
structure Platform where
  memMap : List Region
  undocAliases : Bool
deriving DecidableEq, Repr

/-- The spec's defaults (92_eei_decisions.md D4, D8): RAM everywhere, the 12 undefined bytes fault. -/
def Platform.default : Platform := { memMap := [], undocAliases := false }

/-- The model's own record of the environment's coming moves: the answers at the next boundaries and to the next INs,
each list first to last, and the counter that makes every free value a fresh one (log entries 4 to 7, 13). -/
structure Environment where
  boundaries : List Boundary
  inputs : List Byte
  draws : Nat
deriving DecidableEq, Repr

/-- An environment none of whose answers is fixed beforehand. -/
def Environment.unscripted : Environment := { boundaries := [], inputs := [], draws := 0 }

/-- FREE VALUE: the byte read at an address where nothing is fitted, for each draw (20_memory.md R52, log entry 4). -/
opaque Config.floatingByte : Nat → Byte

/-- FREE VALUE: `IoRead : (IoTrace, port) -> u8` (20_memory.md R55, log entry 5). -/
opaque Config.ioRead : List IoEvent → Byte → Byte

/-- FREE VALUE: `IntSource`, the request present at a boundary, for each draw (60_exceptions.md R276, log entry 6). -/
opaque Config.intRequest : Nat → Option (BitVec 3)

end Sys2Proof
end

