-- ==== Sys2Proof/Syntax.lean ====
section
/-! DEFINITION. The instructions: one constructor for each row of spec/opcode_table.json, in the table's order,
with the operand forms of 30_encoding.md R80, R86 to R89. -/

namespace Sys2Proof

/-- The operand a 3-bit code DDD or SSS selects (10_state.md R21 to R23): a register, or `m`, the byte at HL. -/
inductive Reg8 where
  | b
  | c
  | d
  | e
  | h
  | l
  | m
  | a
deriving DecidableEq, Repr

/-- The pair a 2-bit code rp selects in LXI, DAD, INX and DCX (10_state.md R25): BC, DE, HL, SP. -/
inductive Pair where
  | b
  | d
  | h
  | sp
deriving DecidableEq, Repr

/-- The pair rp selects in PUSH and POP (10_state.md R26): BC, DE, HL. Code 11, PSW, has rows of its own. -/
inductive StackPair where
  | b
  | d
  | h
deriving DecidableEq, Repr

/-- The pair X selects in STAX and LDAX (30_encoding.md R84): BC or DE. -/
inductive IndexPair where
  | b
  | d
deriving DecidableEq, Repr

/-- The eight conditions of the jumps, calls and returns (10_state.md R32). -/
inductive Cond where
  | nz
  | z
  | nc
  | c
  | po
  | pe
  | p
  | m
deriving DecidableEq, Repr

/-- An instruction with its fields and operand bytes. The twelve `undefined…` constructors are the opcode bytes that no
row of the source's tables lists (30_encoding.md R95); under `UndocAliases` some of them read operand bytes, which their
meanings fetch (log entry 12). -/
inductive Instr where
  /-- `IN`, R110. -/
  | inPort (port : Byte)
  /-- `OUT`, R111. -/
  | outPort (port : Byte)
  /-- `EI`, R112. -/
  | ei
  /-- `DI`, R113. -/
  | di
  /-- `HLT`, R114. -/
  | hlt
  /-- `RST`, R115. -/
  | rst (exp : BitVec 3)
  /-- `CMC`, R116. -/
  | cmc
  /-- `STC`, R117. -/
  | stc
  /-- `NOP`, R118. -/
  | nop
  /-- `INR`, R130. -/
  | inr (dst : Reg8)
  /-- `DCR`, R131. -/
  | dcr (dst : Reg8)
  /-- `CMA`, R132. -/
  | cma
  /-- `DAA`, R133. -/
  | daa
  /-- `PUSH`, R140. -/
  | push (rp : StackPair)
  /-- `PUSH PSW`, R141. -/
  | pushPsw
  /-- `POP`, R142. -/
  | pop (rp : StackPair)
  /-- `POP PSW`, R143. -/
  | popPsw
  /-- `DAD`, R144. -/
  | dad (rp : Pair)
  /-- `INX`, R145. -/
  | inx (rp : Pair)
  /-- `DCX`, R146. -/
  | dcx (rp : Pair)
  /-- `XCHG`, R147. -/
  | xchg
  /-- `XTHL`, R148. -/
  | xthl
  /-- `SPHL`, R149. -/
  | sphl
  /-- `RLC`, R160. -/
  | rlc
  /-- `RRC`, R161. -/
  | rrc
  /-- `RAL`, R162. -/
  | ral
  /-- `RAR`, R163. -/
  | rar
  /-- `MOV`, R170. -/
  | mov (dst : Reg8) (src : Reg8)
  /-- `STAX`, R171. -/
  | stax (x : IndexPair)
  /-- `LDAX`, R172. -/
  | ldax (x : IndexPair)
  /-- `ADD`, R180. -/
  | add (src : Reg8)
  /-- `ADC`, R181. -/
  | adc (src : Reg8)
  /-- `SUB`, R182. -/
  | sub (src : Reg8)
  /-- `SBB`, R183. -/
  | sbb (src : Reg8)
  /-- `ANA`, R184. -/
  | ana (src : Reg8)
  /-- `XRA`, R185. -/
  | xra (src : Reg8)
  /-- `ORA`, R186. -/
  | ora (src : Reg8)
  /-- `CMP`, R187. -/
  | cmp (src : Reg8)
  /-- `STA`, R200. -/
  | sta (addr16 : Addr)
  /-- `LDA`, R201. -/
  | lda (addr16 : Addr)
  /-- `SHLD`, R202. -/
  | shld (addr16 : Addr)
  /-- `LHLD`, R203. -/
  | lhld (addr16 : Addr)
  /-- `LXI`, R210. -/
  | lxi (rp : Pair) (data16 : Addr)
  /-- `MVI`, R211. -/
  | mvi (dst : Reg8) (data8 : Byte)
  /-- `ADI`, R212. -/
  | adi (data8 : Byte)
  /-- `ACI`, R213. -/
  | aci (data8 : Byte)
  /-- `SUI`, R214. -/
  | sui (data8 : Byte)
  /-- `SBI`, R215. -/
  | sbi (data8 : Byte)
  /-- `ANI`, R216. -/
  | ani (data8 : Byte)
  /-- `XRI`, R217. -/
  | xri (data8 : Byte)
  /-- `ORI`, R218. -/
  | ori (data8 : Byte)
  /-- `CPI`, R219. -/
  | cpi (data8 : Byte)
  /-- `PCHL`, R230. -/
  | pchl
  /-- `JMP`, R231. -/
  | jmp (addr16 : Addr)
  /-- `JC`, R232. -/
  | jc (addr16 : Addr)
  /-- `JNC`, R233. -/
  | jnc (addr16 : Addr)
  /-- `JZ`, R234. -/
  | jz (addr16 : Addr)
  /-- `JNZ`, R235. -/
  | jnz (addr16 : Addr)
  /-- `JM`, R236. -/
  | jm (addr16 : Addr)
  /-- `JP`, R237. -/
  | jp (addr16 : Addr)
  /-- `JPE`, R238. -/
  | jpe (addr16 : Addr)
  /-- `JPO`, R239. -/
  | jpo (addr16 : Addr)
  /-- `CALL`, R240. -/
  | call (addr16 : Addr)
  /-- `CC`, R241. -/
  | cc (addr16 : Addr)
  /-- `CNC`, R242. -/
  | cnc (addr16 : Addr)
  /-- `CZ`, R243. -/
  | cz (addr16 : Addr)
  /-- `CNZ`, R244. -/
  | cnz (addr16 : Addr)
  /-- `CM`, R245. -/
  | cm (addr16 : Addr)
  /-- `CP`, R246. -/
  | cp (addr16 : Addr)
  /-- `CPE`, R247. -/
  | cpe (addr16 : Addr)
  /-- `CPO`, R248. -/
  | cpo (addr16 : Addr)
  /-- `RET`, R250. -/
  | ret
  /-- `RC`, R251. -/
  | rc
  /-- `RNC`, R252. -/
  | rnc
  /-- `RZ`, R253. -/
  | rz
  /-- `RNZ`, R254. -/
  | rnz
  /-- `RM`, R255. -/
  | rm
  /-- `RP`, R256. -/
  | rp
  /-- `RPE`, R257. -/
  | rpe
  /-- `RPO`, R258. -/
  | rpo
  /-- `undefined_0x08`, R96. -/
  | undefined08
  /-- `undefined_0x10`, R96. -/
  | undefined10
  /-- `undefined_0x18`, R96. -/
  | undefined18
  /-- `undefined_0x20`, R96. -/
  | undefined20
  /-- `undefined_0x28`, R96. -/
  | undefined28
  /-- `undefined_0x30`, R96. -/
  | undefined30
  /-- `undefined_0x38`, R96. -/
  | undefined38
  /-- `undefined_0xCB`, R96. -/
  | undefinedCB
  /-- `undefined_0xD9`, R96. -/
  | undefinedD9
  /-- `undefined_0xDD`, R96. -/
  | undefinedDD
  /-- `undefined_0xED`, R96. -/
  | undefinedED
  /-- `undefined_0xFD`, R96. -/
  | undefinedFD
deriving DecidableEq, Repr

end Sys2Proof
end

