-- ==== Sys2Proof/WellFormed.lean ====
section
/-! DEFINITION. Which terms of `Instr` are instructions. The operand types rule out every other bad field. -/

namespace Sys2Proof

/-- `MOV M,M` is no instruction: its code, 01 110 110, is HLT's (30_encoding.md R89, R92; 90_conflicts.md C6). -/
def Instr.wf : Instr → Bool
  | .mov dst src => !(dst == .m && src == .m)
  | _ => true

end Sys2Proof
end

