-- ==== Sys2Proof/Decode.lean ====
section
/-! DEFINITION. The decoder, total on any bytes, and the encoder (30_encoding.md). The decoder follows the map by
quadrant of R92; the encoder follows the Binary Code column of each row, so that neither is written from the other. -/

namespace Sys2Proof

/-- `h :: l`, the 16-bit value of a high and a low byte (00_scope.md R9). -/
def joinBytes (h l : Byte) : Addr := h ++ l

/-- `hi(w) = w[15:8]` (00_scope.md R9). -/
def hiByte (w : Addr) : Byte := w.extractLsb' 8 8

/-- `lo(w) = w[7:0]` (00_scope.md R9). -/
def loByte (w : Addr) : Byte := w.extractLsb' 0 8

/-! ### Codes of the operands -/

/-- The codes of the first "Register Designations" table (10_state.md R21). -/
def Reg8.code : Reg8 → BitVec 3
  | .b => 0b000
  | .c => 0b001
  | .d => 0b010
  | .e => 0b011
  | .h => 0b100
  | .l => 0b101
  | .m => 0b110
  | .a => 0b111

/-- The operand of a register code (10_state.md R22): every code is legal. -/
def Reg8.ofCode (c : BitVec 3) : Reg8 :=
  match c.toNat with
  | 0 => .b
  | 1 => .c
  | 2 => .d
  | 3 => .e
  | 4 => .h
  | 5 => .l
  | 6 => .m
  | _ => .a

/-- The codes of the second "Register Designations" table (10_state.md R25). -/
def Pair.code : Pair → BitVec 2
  | .b => 0b00
  | .d => 0b01
  | .h => 0b10
  | .sp => 0b11

/-- The pair of a code (10_state.md R25): every code is legal. -/
def Pair.ofCode (c : BitVec 2) : Pair :=
  match c.toNat with
  | 0 => .b
  | 1 => .d
  | 2 => .h
  | _ => .sp

/-- The codes of the PUSH and POP pairs (10_state.md R26). -/
def StackPair.code : StackPair → BitVec 2
  | .b => 0b00
  | .d => 0b01
  | .h => 0b10

/-- X: 0 selects B and C, 1 selects D and E (44_data_transfer.md R171). -/
def IndexPair.code : IndexPair → BitVec 1
  | .b => 0
  | .d => 1

/-- The pair X selects. -/
def IndexPair.ofCode (c : BitVec 1) : IndexPair :=
  match c.toNat with
  | 0 => .b
  | _ => .d

/-! ### Length -/

/-- The 3-byte opcodes of 30_encoding.md R81. -/
def opcodesOfLength3 : List Byte :=
  [0x01, 0x11, 0x21, 0x31, 0x22, 0x2A, 0x32, 0x3A,
   0xC3, 0xC2, 0xCA, 0xD2, 0xDA, 0xE2, 0xEA, 0xF2, 0xFA,
   0xCD, 0xC4, 0xCC, 0xD4, 0xDC, 0xE4, 0xEC, 0xF4, 0xFC]

/-- The 2-byte opcodes of 30_encoding.md R81. -/
def opcodesOfLength2 : List Byte :=
  [0x06, 0x0E, 0x16, 0x1E, 0x26, 0x2E, 0x36, 0x3E,
   0xC6, 0xCE, 0xD6, 0xDE, 0xE6, 0xEE, 0xF6, 0xFE, 0xD3, 0xDB]

/-- The twelve opcode bytes of 30_encoding.md R95. -/
def undefinedOpcodes : List Byte :=
  [0x08, 0x10, 0x18, 0x20, 0x28, 0x30, 0x38, 0xCB, 0xD9, 0xDD, 0xED, 0xFD]

/-- The length of an instruction, a function of its opcode byte alone (30_encoding.md R81, R97). An undefined byte has
the nominal length 1 of its row of opcode_table.json. -/
def opcodeLength (op : Byte) : Nat :=
  if op ∈ opcodesOfLength3 then 3
  else if op ∈ opcodesOfLength2 then 2
  else 1

/-! ### Decoding -/

/-- Quadrant 00 (30_encoding.md R92): `y` is bits 5:3, `z` bits 2:0. -/
def decodeQuadrant0 (y z : BitVec 3) (byte2 byte3 : Byte) : Instr :=
  let rp := Pair.ofCode (y.extractLsb' 1 2)
  let bit3 := y.getLsbD 0
  match z.toNat with
  | 0 =>
    match y.toNat with
    | 0 => .nop
    | 1 => .undefined08
    | 2 => .undefined10
    | 3 => .undefined18
    | 4 => .undefined20
    | 5 => .undefined28
    | 6 => .undefined30
    | _ => .undefined38
  | 1 => if bit3 then .dad rp else .lxi rp (joinBytes byte3 byte2)
  | 2 =>
    match y.toNat with
    | 0 => .stax .b
    | 1 => .ldax .b
    | 2 => .stax .d
    | 3 => .ldax .d
    | 4 => .shld (joinBytes byte3 byte2)
    | 5 => .lhld (joinBytes byte3 byte2)
    | 6 => .sta (joinBytes byte3 byte2)
    | _ => .lda (joinBytes byte3 byte2)
  | 3 => if bit3 then .dcx rp else .inx rp
  | 4 => .inr (Reg8.ofCode y)
  | 5 => .dcr (Reg8.ofCode y)
  | 6 => .mvi (Reg8.ofCode y) byte2
  | _ =>
    match y.toNat with
    | 0 => .rlc
    | 1 => .rrc
    | 2 => .ral
    | 3 => .rar
    | 4 => .daa
    | 5 => .cma
    | 6 => .stc
    | _ => .cmc

/-- Quadrant 01 (30_encoding.md R92): HLT before the MOV pattern. -/
def decodeQuadrant1 (y z : BitVec 3) : Instr :=
  if y = 0b110 ∧ z = 0b110 then .hlt else .mov (Reg8.ofCode y) (Reg8.ofCode z)

/-- Quadrant 10 (30_encoding.md R92). -/
def decodeQuadrant2 (y z : BitVec 3) : Instr :=
  match y.toNat with
  | 0 => .add (Reg8.ofCode z)
  | 1 => .adc (Reg8.ofCode z)
  | 2 => .sub (Reg8.ofCode z)
  | 3 => .sbb (Reg8.ofCode z)
  | 4 => .ana (Reg8.ofCode z)
  | 5 => .xra (Reg8.ofCode z)
  | 6 => .ora (Reg8.ofCode z)
  | _ => .cmp (Reg8.ofCode z)

/-- Quadrant 11 (30_encoding.md R92), the conditions by 10_state.md R32. -/
def decodeQuadrant3 (y z : BitVec 3) (byte2 byte3 : Byte) : Instr :=
  let addr16 := joinBytes byte3 byte2
  match z.toNat with
  | 0 =>
    match y.toNat with
    | 0 => .rnz
    | 1 => .rz
    | 2 => .rnc
    | 3 => .rc
    | 4 => .rpo
    | 5 => .rpe
    | 6 => .rp
    | _ => .rm
  | 1 =>
    match y.toNat with
    | 0 => .pop .b
    | 1 => .ret
    | 2 => .pop .d
    | 3 => .undefinedD9
    | 4 => .pop .h
    | 5 => .pchl
    | 6 => .popPsw
    | _ => .sphl
  | 2 =>
    match y.toNat with
    | 0 => .jnz addr16
    | 1 => .jz addr16
    | 2 => .jnc addr16
    | 3 => .jc addr16
    | 4 => .jpo addr16
    | 5 => .jpe addr16
    | 6 => .jp addr16
    | _ => .jm addr16
  | 3 =>
    match y.toNat with
    | 0 => .jmp addr16
    | 1 => .undefinedCB
    | 2 => .outPort byte2
    | 3 => .inPort byte2
    | 4 => .xthl
    | 5 => .xchg
    | 6 => .di
    | _ => .ei
  | 4 =>
    match y.toNat with
    | 0 => .cnz addr16
    | 1 => .cz addr16
    | 2 => .cnc addr16
    | 3 => .cc addr16
    | 4 => .cpo addr16
    | 5 => .cpe addr16
    | 6 => .cp addr16
    | _ => .cm addr16
  | 5 =>
    match y.toNat with
    | 0 => .push .b
    | 1 => .call addr16
    | 2 => .push .d
    | 3 => .undefinedDD
    | 4 => .push .h
    | 5 => .undefinedED
    | 6 => .pushPsw
    | _ => .undefinedFD
  | 6 =>
    match y.toNat with
    | 0 => .adi byte2
    | 1 => .aci byte2
    | 2 => .sui byte2
    | 3 => .sbi byte2
    | 4 => .ani byte2
    | 5 => .xri byte2
    | 6 => .ori byte2
    | _ => .cpi byte2
  | _ => .rst y

/-- The instruction of an opcode byte and the two bytes after it (30_encoding.md R97, R103): total, every byte has
one reading; an operand byte that the opcode does not have is not looked at. -/
def decodeBytes (op byte2 byte3 : Byte) : Instr :=
  let y := op.extractLsb' 3 3
  let z := op.extractLsb' 0 3
  match (op.extractLsb' 6 2).toNat with
  | 0 => decodeQuadrant0 y z byte2 byte3
  | 1 => decodeQuadrant1 y z
  | 2 => decodeQuadrant2 y z
  | _ => decodeQuadrant3 y z byte2 byte3

/-- Why a list of bytes is not the start of an instruction. -/
inductive DecodeError where
  /-- there is no opcode byte -/
  | noBytes
  /-- the list ends before the operand bytes of this opcode -/
  | truncated (op : Byte)
deriving DecidableEq, Repr

/-- The instruction at the head of a list of bytes, in ascending address order (30_encoding.md R86), with the rest. -/
def decode : List Byte → Except DecodeError (Instr × List Byte)
  | [] => .error .noBytes
  | op :: rest =>
    match opcodeLength op, rest with
    | 1, _ => .ok (decodeBytes op 0 0, rest)
    | 2, byte2 :: rest2 => .ok (decodeBytes op byte2 0, rest2)
    | 3, byte2 :: byte3 :: rest3 => .ok (decodeBytes op byte2 byte3, rest3)
    | _, _ => .error (.truncated op)

/-! ### Encoding -/

/-- An opcode byte from its three groups of 2, 3 and 3 bits (00_scope.md R8). -/
def opcode (group1 : BitVec 2) (group2 group3 : BitVec 3) : Byte := group1 ++ group2 ++ group3

/-- The bytes of an instruction at ascending addresses: the Binary Code column of its row with its fields filled in
(30_encoding.md R83 to R85), then its operand bytes, the low-order one first (R86, R88). -/
def encode : Instr → List Byte
  | .inPort port => [opcode 0b11 0b011 0b011, port]
  | .outPort port => [opcode 0b11 0b010 0b011, port]
  | .ei => [opcode 0b11 0b111 0b011]
  | .di => [opcode 0b11 0b110 0b011]
  | .hlt => [opcode 0b01 0b110 0b110]
  | .rst exp => [opcode 0b11 exp 0b111]
  | .cmc => [opcode 0b00 0b111 0b111]
  | .stc => [opcode 0b00 0b110 0b111]
  | .nop => [opcode 0b00 0b000 0b000]
  | .inr dst => [opcode 0b00 dst.code 0b100]
  | .dcr dst => [opcode 0b00 dst.code 0b101]
  | .cma => [opcode 0b00 0b101 0b111]
  | .daa => [opcode 0b00 0b100 0b111]
  | .push rp => [opcode 0b11 (rp.code ++ 0#1) 0b101]
  | .pushPsw => [opcode 0b11 0b110 0b101]
  | .pop rp => [opcode 0b11 (rp.code ++ 0#1) 0b001]
  | .popPsw => [opcode 0b11 0b110 0b001]
  | .dad rp => [opcode 0b00 (rp.code ++ 1#1) 0b001]
  | .inx rp => [opcode 0b00 (rp.code ++ 0#1) 0b011]
  | .dcx rp => [opcode 0b00 (rp.code ++ 1#1) 0b011]
  | .xchg => [opcode 0b11 0b101 0b011]
  | .xthl => [opcode 0b11 0b100 0b011]
  | .sphl => [opcode 0b11 0b111 0b001]
  | .rlc => [opcode 0b00 0b000 0b111]
  | .rrc => [opcode 0b00 0b001 0b111]
  | .ral => [opcode 0b00 0b010 0b111]
  | .rar => [opcode 0b00 0b011 0b111]
  | .mov dst src => [opcode 0b01 dst.code src.code]
  | .stax x => [opcode 0b00 (0#1 ++ x.code ++ 0#1) 0b010]
  | .ldax x => [opcode 0b00 (0#1 ++ x.code ++ 1#1) 0b010]
  | .add src => [opcode 0b10 0b000 src.code]
  | .adc src => [opcode 0b10 0b001 src.code]
  | .sub src => [opcode 0b10 0b010 src.code]
  | .sbb src => [opcode 0b10 0b011 src.code]
  | .ana src => [opcode 0b10 0b100 src.code]
  | .xra src => [opcode 0b10 0b101 src.code]
  | .ora src => [opcode 0b10 0b110 src.code]
  | .cmp src => [opcode 0b10 0b111 src.code]
  | .sta addr16 => [opcode 0b00 0b110 0b010, loByte addr16, hiByte addr16]
  | .lda addr16 => [opcode 0b00 0b111 0b010, loByte addr16, hiByte addr16]
  | .shld addr16 => [opcode 0b00 0b100 0b010, loByte addr16, hiByte addr16]
  | .lhld addr16 => [opcode 0b00 0b101 0b010, loByte addr16, hiByte addr16]
  | .lxi rp data16 => [opcode 0b00 (rp.code ++ 0#1) 0b001, loByte data16, hiByte data16]
  | .mvi dst data8 => [opcode 0b00 dst.code 0b110, data8]
  | .adi data8 => [opcode 0b11 0b000 0b110, data8]
  | .aci data8 => [opcode 0b11 0b001 0b110, data8]
  | .sui data8 => [opcode 0b11 0b010 0b110, data8]
  | .sbi data8 => [opcode 0b11 0b011 0b110, data8]
  | .ani data8 => [opcode 0b11 0b100 0b110, data8]
  | .xri data8 => [opcode 0b11 0b101 0b110, data8]
  | .ori data8 => [opcode 0b11 0b110 0b110, data8]
  | .cpi data8 => [opcode 0b11 0b111 0b110, data8]
  | .pchl => [opcode 0b11 0b101 0b001]
  | .jmp addr16 => [opcode 0b11 0b000 0b011, loByte addr16, hiByte addr16]
  | .jc addr16 => [opcode 0b11 0b011 0b010, loByte addr16, hiByte addr16]
  | .jnc addr16 => [opcode 0b11 0b010 0b010, loByte addr16, hiByte addr16]
  | .jz addr16 => [opcode 0b11 0b001 0b010, loByte addr16, hiByte addr16]
  | .jnz addr16 => [opcode 0b11 0b000 0b010, loByte addr16, hiByte addr16]
  | .jm addr16 => [opcode 0b11 0b111 0b010, loByte addr16, hiByte addr16]
  | .jp addr16 => [opcode 0b11 0b110 0b010, loByte addr16, hiByte addr16]
  | .jpe addr16 => [opcode 0b11 0b101 0b010, loByte addr16, hiByte addr16]
  | .jpo addr16 => [opcode 0b11 0b100 0b010, loByte addr16, hiByte addr16]
  | .call addr16 => [opcode 0b11 0b001 0b101, loByte addr16, hiByte addr16]
  | .cc addr16 => [opcode 0b11 0b011 0b100, loByte addr16, hiByte addr16]
  | .cnc addr16 => [opcode 0b11 0b010 0b100, loByte addr16, hiByte addr16]
  | .cz addr16 => [opcode 0b11 0b001 0b100, loByte addr16, hiByte addr16]
  | .cnz addr16 => [opcode 0b11 0b000 0b100, loByte addr16, hiByte addr16]
  | .cm addr16 => [opcode 0b11 0b111 0b100, loByte addr16, hiByte addr16]
  | .cp addr16 => [opcode 0b11 0b110 0b100, loByte addr16, hiByte addr16]
  | .cpe addr16 => [opcode 0b11 0b101 0b100, loByte addr16, hiByte addr16]
  | .cpo addr16 => [opcode 0b11 0b100 0b100, loByte addr16, hiByte addr16]
  | .ret => [opcode 0b11 0b001 0b001]
  | .rc => [opcode 0b11 0b011 0b000]
  | .rnc => [opcode 0b11 0b010 0b000]
  | .rz => [opcode 0b11 0b001 0b000]
  | .rnz => [opcode 0b11 0b000 0b000]
  | .rm => [opcode 0b11 0b111 0b000]
  | .rp => [opcode 0b11 0b110 0b000]
  | .rpe => [opcode 0b11 0b101 0b000]
  | .rpo => [opcode 0b11 0b100 0b000]
  | .undefined08 => [opcode 0b00 0b001 0b000]
  | .undefined10 => [opcode 0b00 0b010 0b000]
  | .undefined18 => [opcode 0b00 0b011 0b000]
  | .undefined20 => [opcode 0b00 0b100 0b000]
  | .undefined28 => [opcode 0b00 0b101 0b000]
  | .undefined30 => [opcode 0b00 0b110 0b000]
  | .undefined38 => [opcode 0b00 0b111 0b000]
  | .undefinedCB => [opcode 0b11 0b001 0b011]
  | .undefinedD9 => [opcode 0b11 0b011 0b001]
  | .undefinedDD => [opcode 0b11 0b011 0b101]
  | .undefinedED => [opcode 0b11 0b101 0b101]
  | .undefinedFD => [opcode 0b11 0b111 0b101]

/-! ### The host's question -/

/-- Three bytes of memory for an instruction given as a number: the low-order byte first, the bits above `nbits` zero. -/
def tableBytes (nbits w : Nat) : List Byte :=
  let v := w % 2 ^ nbits
  [BitVec.ofNat 8 v, BitVec.ofNat 8 (v / 256), BitVec.ofNat 8 (v / 65536)]

/-- The instruction the decoder reads from a word of opcode_table.json. -/
def decodeTableWord (nbits w : Nat) : Option Instr :=
  match decode (tableBytes nbits w) with
  | .ok (i, _) => some i
  | .error _ => none

end Sys2Proof
end

