-- ==== Sys2Proof/Machine/State.lean ====
section
/-! DEFINITION. The state of the machine as plain data, after 10_state.md R20, the reasons a step can stop, and the
state after reset. -/

namespace Sys2Proof.Machine

/-- The five condition flags, independent bits (10_state.md R31, R38). -/
structure Flags where
  /-- S, sign -/
  s : Bool
  /-- Z, zero -/
  z : Bool
  /-- AC, auxiliary carry -/
  ac : Bool
  /-- P, parity -/
  p : Bool
  /-- CY, carry -/
  cy : Bool
deriving DecidableEq, Repr

/-- Memory: the listed (address, byte) pairs in canonical form (`Memory.wf`); an unlisted byte reads as `unlistedByte`. -/
abbrev Memory := List Host.Cell

/-- The model's one fault (60_exceptions.md R270). -/
inductive Fault where
  /-- `UndefinedOpcode(op, addr)`: raised by the meanings of the twelve bytes of 30_encoding.md R95 when `UndocAliases` is
  false, which set FAULT; `step` answers with it from a state whose FAULT is set, where the spec has no step (10_state.md
  R42, 60_exceptions.md R270). Safe: nothing can be proved of what silicon does with the byte. -/
  | undefinedOpcode (op : Byte) (addr : Addr)
deriving DecidableEq, Repr

/-- Why the model gives no meaning to a step. -/
inductive Refusal where
  /-- An instruction that has no meaning yet, raised by `exec` alone; no arm of `exec` raises it. Safe. -/
  | notModelled (mnemonic : String)
deriving DecidableEq, Repr

/-- The state: the spec's record (10_state.md R20), then the platform's parameters (00_scope.md R6), which no step changes,
then the model's own record of the environment's coming moves. -/
structure State where
  /-- A, the accumulator -/
  a : Byte
  /-- B -/
  b : Byte
  /-- C -/
  c : Byte
  /-- D -/
  d : Byte
  /-- E -/
  e : Byte
  /-- H -/
  h : Byte
  /-- L -/
  l : Byte
  /-- SP, the address of the byte most recently pushed (R30) -/
  sp : Addr
  /-- PC, the address of the next instruction byte to fetch (R28) -/
  pc : Addr
  /-- S, Z, AC, P, CY (R31) -/
  flags : Flags
  /-- INTE, the interrupt-enable flip-flop (R39) -/
  inte : Bool
  /-- EI_SHADOW: the instruction just completed was EI (R41) -/
  eiShadow : Bool
  /-- HALTED (R42) -/
  halted : Bool
  /-- FAULT, the model's sticky fault mark (R42) -/
  fault : Option Fault
  /-- Mem (20_memory.md R50) -/
  mem : Memory
  /-- IoTrace, oldest event first (20_memory.md R55, R56) -/
  ioTrace : List IoEvent
  /-- MemKind and UndocAliases -/
  plat : Platform
  /-- the model's own: the environment's coming moves -/
  env : Environment
deriving DecidableEq, Repr

/-- What a meaning answers. -/
abbrev Result := Host.Outcome State Fault Refusal

/-- The components that reset leaves unspecified (10_state.md R45): one draw each at power-on. -/
structure PowerOn where
  a : Byte
  b : Byte
  c : Byte
  d : Byte
  e : Byte
  h : Byte
  l : Byte
  sp : Addr
  flags : Flags
deriving DecidableEq, Repr

/-- The machine right after power-on and reset (10_state.md R45), for a draw of the unspecified components, the memory's
contents `InitMem`, the platform and the environment. A claim for every such argument is the spec's universally
quantified draw. -/
def State.powerOn (draw : PowerOn) (initMem : Memory) (plat : Platform) (env : Environment) : State where
  a := draw.a
  b := draw.b
  c := draw.c
  d := draw.d
  e := draw.e
  h := draw.h
  l := draw.l
  sp := draw.sp
  pc := 0x0000
  flags := draw.flags
  inte := false
  eiShadow := false
  halted := false
  fault := none
  mem := initMem
  ioTrace := []
  plat := plat
  env := env

/-- DESIGN CHOICE (log entry 1), unsafe: the one value the model names for each component that 10_state.md R45 leaves
unspecified. None is zero, which R45 forbids, and no two registers hold the same. -/
def PowerOn.named : PowerOn where
  a := 0x77
  b := 0x11
  c := 0x22
  d := 0x33
  e := 0x44
  h := 0x55
  l := 0x66
  sp := 0x8899
  flags := { s := true, z := true, ac := true, p := true, cy := true }

/-- The machine right after reset: PC = 0, INTE = HALTED = EI_SHADOW = 0, FAULT none, IoTrace empty (10_state.md R45,
70_reset_and_hazards.md R300); the rest as the log names it (log entries 1, 2, 3, 8, 10, 13). -/
def State.reset : State :=
  State.powerOn PowerOn.named [] Platform.default Environment.unscripted

end Sys2Proof.Machine
end

