-- ==== Sys2Proof/Machine/Flags.lean ====
section
/-! DEFINITION. The flag computations and the arithmetic that sets them, as pure functions of the operands
(10_state.md R32 to R38, and the helper part of the instruction rules). Sums are exact naturals, reduced at the end. -/

namespace Sys2Proof.Machine

/-- A result byte with the five flags after it. -/
structure AluResult where
  value : Byte
  flags : Flags
deriving DecidableEq, Repr

/-- `parity_even(v)`: an even number of 1 bits (10_state.md R33). -/
def parityEven (v : Byte) : Bool :=
  !(v.getLsbD 0 ^^ v.getLsbD 1 ^^ v.getLsbD 2 ^^ v.getLsbD 3 ^^ v.getLsbD 4 ^^ v.getLsbD 5 ^^ v.getLsbD 6 ^^ v.getLsbD 7)

/-- `set_szp(v)`: S, Z and P from a result, AC and CY as they were (10_state.md R34). -/
def setSzp (v : Byte) (f : Flags) : Flags :=
  { f with s := v.getLsbD 7, z := v == 0, p := parityEven v }

/-- `add8(a, b, cin)`: the sum and all five flags (10_state.md R35). -/
def add8 (a b : Byte) (cin : Bool) : AluResult :=
  let sum := a.toNat + b.toNat + cin.toNat
  let res := BitVec.ofNat 8 sum
  let carries : Flags :=
    { s := false, z := false, p := false,
      ac := decide (a.toNat % 16 + b.toNat % 16 + cin.toNat > 0x0F),
      cy := decide (sum > 255) }
  { value := res, flags := setSzp res carries }

/-- `sub8(a, b, bin)`: the difference and all five flags, by adding the one's complement; CY is a borrow, AC the carry
out of bit 3 of that addition (10_state.md R36). -/
def sub8 (a b : Byte) (bin : Bool) : AluResult :=
  let nb := 255 - b.toNat
  let sum := a.toNat + nb + (1 - bin.toNat)
  let res := BitVec.ofNat 8 sum
  let carries : Flags :=
    { s := false, z := false, p := false,
      ac := decide (a.toNat % 16 + nb % 16 + (1 - bin.toNat) > 0x0F),
      cy := !decide (sum > 255) }
  { value := res, flags := setSzp res carries }

/-- The flags of a logical operation: S, Z, P of the result, CY cleared, AC given (45 R184 to R186). -/
def logicResult (res : Byte) (ac : Bool) : AluResult :=
  { value := res, flags := setSzp res { s := false, z := false, ac := ac, p := false, cy := false } }

/-- ANA and ANI: AC is bit 3 of the OR of the operands (45_register_memory_to_accumulator.md R184). -/
def and8 (a v : Byte) : AluResult := logicResult (a &&& v) ((a ||| v).getLsbD 3)

/-- XRA and XRI: AC cleared (45_register_memory_to_accumulator.md R185). -/
def xor8 (a v : Byte) : AluResult := logicResult (a ^^^ v) false

/-- ORA and ORI: AC cleared (45_register_memory_to_accumulator.md R186). -/
def or8 (a v : Byte) : AluResult := logicResult (a ||| v) false

/-- INR: the value plus one, CY kept (41_single_register.md R130). -/
def inc8 (v : Byte) (f : Flags) : AluResult :=
  let res := v + 1
  { value := res, flags := setSzp res { f with ac := decide (v.toNat % 16 = 0x0F) } }

/-- DCR: the value minus one, CY kept; AC is 0 when the low nibble borrowed (41_single_register.md R131). -/
def dec8 (v : Byte) (f : Flags) : AluResult :=
  let res := v - 1
  { value := res, flags := setSzp res { f with ac := !decide (v.toNat % 16 = 0x00) } }

/-- Does DAA add 0x06: AC set, or a low nibble above 9 (41_single_register.md R133). -/
def daaLow (a : Byte) (f : Flags) : Bool := f.ac || decide (a.toNat % 16 > 9)

/-- Does DAA add 0x60: CY set, a high nibble above 9, or one of 9 pushed over by the low nibble (R133). -/
def daaHigh (a : Byte) (f : Flags) : Bool :=
  f.cy || decide (a.toNat / 16 > 9) || (decide (a.toNat / 16 ≥ 9) && decide (a.toNat % 16 > 9))

/-- DAA as one correcting addition decided on the values before it; CY is set or left as it was (R133). -/
def daa8 (a : Byte) (f : Flags) : AluResult :=
  let corr := (if daaLow a f then 0x06 else 0) + (if daaHigh a f then 0x60 else 0)
  let res := BitVec.ofNat 8 (a.toNat + corr)
  let carries : Flags :=
    { f with
      ac := decide (a.toNat % 16 + corr % 16 > 0x0F),
      cy := if daaHigh a f then true else f.cy }
  { value := res, flags := setSzp res carries }

/-- RLC (43_rotate_accumulator.md R160): bit 7 to bit 0 and to CY. -/
def rotateLeft (a : Byte) (f : Flags) : AluResult :=
  let b7 := a.getLsbD 7
  { value := BitVec.ofNat 8 (a.toNat * 2 % 256 + b7.toNat), flags := { f with cy := b7 } }

/-- RRC (43_rotate_accumulator.md R161): bit 0 to bit 7 and to CY. -/
def rotateRight (a : Byte) (f : Flags) : AluResult :=
  let b0 := a.getLsbD 0
  { value := BitVec.ofNat 8 (a.toNat / 2 + 128 * b0.toNat), flags := { f with cy := b0 } }

/-- RAL (43_rotate_accumulator.md R162): the old CY to bit 0, bit 7 to CY. -/
def rotateLeftCarry (a : Byte) (f : Flags) : AluResult :=
  { value := BitVec.ofNat 8 (a.toNat * 2 % 256 + f.cy.toNat), flags := { f with cy := a.getLsbD 7 } }

/-- RAR (43_rotate_accumulator.md R163): the old CY to bit 7, bit 0 to CY. -/
def rotateRightCarry (a : Byte) (f : Flags) : AluResult :=
  { value := BitVec.ofNat 8 (a.toNat / 2 + 128 * f.cy.toNat), flags := { f with cy := a.getLsbD 0 } }

/-- DAD's carry, out of bit 15 of the exact sum (42_register_pair.md R144). -/
def dadFlags (hl w : Addr) (f : Flags) : Flags := { f with cy := decide (hl.toNat + w.toNat > 65535) }

/-- `flags_byte()`: S Z 0 AC 0 P 1 CY (10_state.md R37). -/
def flagsByte (f : Flags) : Byte :=
  BitVec.ofNat 8
    (128 * f.s.toNat + 64 * f.z.toNat + 16 * f.ac.toNat + 4 * f.p.toNat + 2 + f.cy.toNat)

/-- `set_flags_from_byte(v)`: bits 5, 3 and 1 are ignored (10_state.md R38). -/
def flagsOfByte (v : Byte) : Flags :=
  { s := v.getLsbD 7, z := v.getLsbD 6, ac := v.getLsbD 4, p := v.getLsbD 2, cy := v.getLsbD 0 }

/-- `cond(ccc)` (10_state.md R32, fourth column). -/
def condHolds (cond : Cond) (f : Flags) : Bool :=
  match cond with
  | .nz => !f.z
  | .z => f.z
  | .nc => !f.cy
  | .c => f.cy
  | .po => !f.p
  | .pe => f.p
  | .p => !f.s
  | .m => f.s

end Sys2Proof.Machine
end

