-- ==== Sys2Proof/Machine/Ops.lean ====
section
/-! DEFINITION. The named operations over registers, memory, I/O and the stack, the taking of an interrupt and the
return from one, reset, the raising of the model's fault, and the fetch of an instruction. -/

namespace Sys2Proof.Machine

/-! ### Writing one component -/

def State.setA (s : State) (v : Byte) : State := { s with a := v }
def State.setB (s : State) (v : Byte) : State := { s with b := v }
def State.setC (s : State) (v : Byte) : State := { s with c := v }
def State.setD (s : State) (v : Byte) : State := { s with d := v }
def State.setE (s : State) (v : Byte) : State := { s with e := v }
def State.setH (s : State) (v : Byte) : State := { s with h := v }
def State.setL (s : State) (v : Byte) : State := { s with l := v }
def State.setSp (s : State) (w : Addr) : State := { s with sp := w }
def State.setPc (s : State) (w : Addr) : State := { s with pc := w }
def State.setFlags (s : State) (f : Flags) : State := { s with flags := f }
def State.setInte (s : State) (v : Bool) : State := { s with inte := v }
def State.setEiShadow (s : State) (v : Bool) : State := { s with eiShadow := v }
def State.setHalted (s : State) (v : Bool) : State := { s with halted := v }
def State.setFault (s : State) (v : Option Fault) : State := { s with fault := v }
def State.setMem (s : State) (m : Memory) : State := { s with mem := m }
def State.setIoTrace (s : State) (t : List IoEvent) : State := { s with ioTrace := t }
def State.setEnv (s : State) (v : Environment) : State := { s with env := v }

/-! ### Register pairs (10_state.md R24): the first-named register is the high-order byte -/

def State.bc (s : State) : Addr := joinBytes s.b s.c
def State.de (s : State) : Addr := joinBytes s.d s.e
def State.hl (s : State) : Addr := joinBytes s.h s.l

def State.setBc (s : State) (w : Addr) : State := (s.setB (hiByte w)).setC (loByte w)
def State.setDe (s : State) (w : Addr) : State := (s.setD (hiByte w)).setE (loByte w)
def State.setHl (s : State) (w : Addr) : State := (s.setH (hiByte w)).setL (loByte w)

/-! ### The list that holds memory -/

/-- DESIGN CHOICE (log entry 2), unsafe: what a byte that nothing has written reads as. -/
def unlistedByte : Byte := 0x00

/-- The byte at an address. -/
def Memory.read : Memory → Nat → Byte
  | [], _ => unlistedByte
  | (k, v) :: m, addr => if k = addr then v else Memory.read m addr

/-- The list without its entry for an address. -/
def Memory.erase (m : Memory) (addr : Nat) : Memory := m.filter fun cell => decide (cell.1 ≠ addr)

/-- The list with an entry placed before the first higher address. -/
def Memory.insert : Memory → Nat → Byte → Memory
  | [], addr, v => [(addr, v)]
  | (k, w) :: m, addr, v =>
    if addr < k then (addr, v) :: (k, w) :: m else (k, w) :: Memory.insert m addr v

/-- The memory after a byte is stored. Storing `unlistedByte` removes the entry, so that equal memories are equal lists. -/
def Memory.write (m : Memory) (addr : Nat) (v : Byte) : Memory :=
  if v = unlistedByte then Memory.erase m addr else Memory.insert (Memory.erase m addr) addr v

/-- The canonical form: addresses below 65536 and strictly rising, no entry equal to what an unlisted byte reads as. -/
def Memory.wf : Memory → Bool
  | [] => true
  | (k, v) :: m =>
    decide (k < 65536) && decide (v ≠ unlistedByte) && m.all (fun cell => decide (k < cell.1)) && Memory.wf m

/-! ### Memory accesses (20_memory.md R51 to R53), one byte each (R58) -/

/-- The kind of an address in a list of regions: the first region that holds it decides, RAM where none does. -/
def kindIn : List Region → Nat → MemKind
  | [], _ => .ram
  | r :: rs, addr => if r.first ≤ addr ∧ addr ≤ r.last then r.kind else kindIn rs addr

/-- `MemKind(addr)` (20_memory.md R51). -/
def State.memKind (s : State) (addr : Addr) : MemKind := kindIn s.plat.memMap addr.toNat

/-- `Mem(addr)`: the byte stored at an address. -/
def State.stored (s : State) (addr : Addr) : Byte := Memory.read s.mem addr.toNat

/-- What `MemRead(addr, 1)` returns in this state (20_memory.md R52): the stored byte, or a free value where nothing is
fitted. -/
def State.peek (s : State) (addr : Addr) : Byte :=
  match s.memKind addr with
  | .none => Config.floatingByte s.env.draws
  | _ => s.stored addr

/-- The state after the next free value is drawn: only the model's own counter moves. -/
def State.draw (s : State) : State := s.setEnv { s.env with draws := s.env.draws + 1 }

/-- The state after `MemRead(addr, 1)`: a read never changes Mem (20_memory.md R52); where nothing is fitted the next read
draws afresh. -/
def State.touch (s : State) (addr : Addr) : State :=
  match s.memKind addr with
  | .none => s.draw
  | _ => s

/-- `MemWrite(addr, 1, v)` (20_memory.md R53): a write where there is no RAM is dropped. -/
def State.store (s : State) (addr : Addr) (v : Byte) : State :=
  match s.memKind addr with
  | .ram => s.setMem (Memory.write s.mem addr.toNat v)
  | _ => s

/-- What `MemRead16(addr)` returns (20_memory.md R58): two byte reads, the low-order byte first. -/
def State.peek16 (s : State) (addr : Addr) : Addr :=
  joinBytes ((s.touch addr).peek (addr + 1)) (s.peek addr)

/-- The state after `MemRead16(addr)`. -/
def State.touch16 (s : State) (addr : Addr) : State := (s.touch addr).touch (addr + 1)

/-- `MemWrite16(addr, w)` (20_memory.md R58): the low-order byte at `addr`, the high-order one at `addr + 1`. -/
def State.store16 (s : State) (addr : Addr) (w : Addr) : State :=
  (s.store addr (loByte w)).store (addr + 1) (hiByte w)

/-! ### The stack (20_memory.md R73, R74) -/

/-- `push16(w)`: the high byte at SP - 1, then the low byte at SP - 2. -/
def State.push16 (s : State) (w : Addr) : State :=
  ((s.store (s.sp - 1) (hiByte w)).store (s.sp - 2) (loByte w)).setSp (s.sp - 2)

/-- The state after `pop16()`, whose value is `s.peek16 s.sp`: memory is not changed. -/
def State.popped (s : State) : State := (s.touch16 s.sp).setSp (s.sp + 2)

/-! ### I/O (20_memory.md R54 to R56) -/

/-- What `IoRead(port)` returns in this state: the host's next answer, or a free value where it has given none. -/
def State.ioAnswer (s : State) (port : Byte) : Byte :=
  match s.env.inputs with
  | [] => Config.ioRead s.ioTrace port
  | v :: _ => v

/-- The state after `IoRead(port)`: the event is recorded, the host's answer used up. -/
def State.ioRead (s : State) (port : Byte) : State :=
  (s.setIoTrace (s.ioTrace ++ [.input port (s.ioAnswer port)])).setEnv { s.env with inputs := s.env.inputs.tail }

/-- `IoWrite(port, v)`: the event is recorded. -/
def State.ioWrite (s : State) (port v : Byte) : State := s.setIoTrace (s.ioTrace ++ [.output port v])

/-! ### The instruction cycle (30_encoding.md R102 step 4) -/

/-- What every instruction of length n does besides its own effect: PC moves to the next sequential instruction before
the effect, and EI_SHADOW is cleared (EI then sets it). PC wraps modulo 65536 (10_state.md R29). Log entry 11. -/
def State.advance (s : State) (n : Addr) : State := (s.setPc (s.pc + n)).setEiShadow false

/-- The fetch: the opcode byte, then the operand bytes its length asks for, at ascending addresses (20_memory.md R57, R72;
10_state.md R29). Answers the instruction and the state after the reads; PC is moved by the instruction's meaning. -/
def State.fetch (s : State) : Instr × State :=
  let op := s.peek s.pc
  let s1 := s.touch s.pc
  let n := opcodeLength op
  let byte2 := if n ≥ 2 then s1.peek (s.pc + 1) else 0
  let s2 := if n ≥ 2 then s1.touch (s.pc + 1) else s1
  let byte3 := if n = 3 then s2.peek (s.pc + 2) else 0
  let s3 := if n = 3 then s2.touch (s.pc + 2) else s2
  (decodeBytes op byte2 byte3, s3)

/-! ### Calls, returns, restarts -/

/-- Call: push the return address PC, go to the target (48_branching.md R240). -/
def State.callTo (s : State) (target : Addr) : State := (s.push16 s.pc).setPc target

/-- `RST n`: push PC, go to 8 * n (40_command.md R115). -/
def State.restart (s : State) (n : BitVec 3) : State := s.callTo (BitVec.ofNat 16 (8 * n.toNat))

/-! ### Taking an interrupt, returning from one, reset, the fault -/

/-- Acceptance of an interrupt with restart number n (60_exceptions.md R278): INTE, HALTED and EI_SHADOW are cleared, PC is
pushed without being advanced, control goes to 8 * n. Nothing else is saved or changed. -/
def State.acceptInterrupt (s : State) (n : BitVec 3) : State :=
  (((s.setInte false).setHalted false).setEiShadow false).restart n

/-- Return: PC is popped, nothing else is restored. It is also the return from an interrupt (60_exceptions.md R281), there
being no other (48_branching.md R250). -/
def State.returnFrom (s : State) : State := s.popped.setPc (s.peek16 s.sp)

/-- Reset (70_reset_and_hazards.md R300): the registers, SP, the flags, Mem and IoTrace are not touched. -/
def State.applyReset (s : State) : State :=
  (((s.setPc 0x0000).setInte false).setHalted false).setEiShadow false

/-- `raise UndefinedOpcode(op)` (60_exceptions.md R270): FAULT records the byte and its address, PC; nothing else changes. -/
def State.raiseUndefined (s : State) (op : Byte) : State := s.setFault (some (.undefinedOpcode op s.pc))

/-! ### The environment at an instruction boundary -/

/-- The environment's answers at this boundary: those the host has given, else no reset (the default of `ResetSource`,
70_reset_and_hazards.md R301) and a request that is a free value (60_exceptions.md R276). -/
def State.boundary (s : State) : Boundary :=
  match s.env.boundaries with
  | [] => { reset := false, request := Config.intRequest s.env.draws }
  | b :: _ => b

/-- The state after this boundary's answers are given: only the model's own record moves on. -/
def State.passBoundary (s : State) : State :=
  match s.env.boundaries with
  | [] => s.draw
  | _ :: rest => s.setEnv { s.env with boundaries := rest }

/-- The interrupt accepted at this boundary, if any (60_exceptions.md R277): one is requested, INTE = 1 and EI_SHADOW = 0.
HALTED does not prevent it. -/
def State.acceptable (s : State) : Option (BitVec 3) :=
  if s.inte && !s.eiShadow then s.boundary.request else none

end Sys2Proof.Machine
end

