-- ==== Sys2Proof/Machine/Operands.lean ====
section
/-! DEFINITION. The operand forms: 8-bit operands by register code, pairs by pair code (10_state.md R22 to R26, 44 R171). -/

namespace Sys2Proof.Machine

/-- `r8[c]` as a value (10_state.md R22): a register, or for M what a read of the byte at HL returns. -/
def State.operand (s : State) (r : Reg8) : Byte :=
  match r with
  | .b => s.b
  | .c => s.c
  | .d => s.d
  | .e => s.e
  | .h => s.h
  | .l => s.l
  | .m => s.peek s.hl
  | .a => s.a

/-- The state after `r8[c]` is read: M is one memory read (10_state.md R22). -/
def State.touchOperand (s : State) (r : Reg8) : State :=
  match r with
  | .m => s.touch s.hl
  | _ => s

/-- `r8[c] <- v` (10_state.md R23): a register, or for M a memory write at HL. -/
def State.setOperand (s : State) (r : Reg8) (v : Byte) : State :=
  match r with
  | .b => s.setB v
  | .c => s.setC v
  | .d => s.setD v
  | .e => s.setE v
  | .h => s.setH v
  | .l => s.setL v
  | .m => s.store s.hl v
  | .a => s.setA v

/-- `rp[p]` (10_state.md R25). -/
def State.pair (s : State) (p : Pair) : Addr :=
  match p with
  | .b => s.bc
  | .d => s.de
  | .h => s.hl
  | .sp => s.sp

/-- `rp[p] <- w` (10_state.md R24, R25). -/
def State.setPair (s : State) (p : Pair) (w : Addr) : State :=
  match p with
  | .b => s.setBc w
  | .d => s.setDe w
  | .h => s.setHl w
  | .sp => s.setSp w

/-- The pair PUSH pushes (10_state.md R26). -/
def State.stackPair (s : State) (p : StackPair) : Addr :=
  match p with
  | .b => s.bc
  | .d => s.de
  | .h => s.hl

/-- The pair POP loads (10_state.md R26). -/
def State.setStackPair (s : State) (p : StackPair) (w : Addr) : State :=
  match p with
  | .b => s.setBc w
  | .d => s.setDe w
  | .h => s.setHl w

/-- The address of STAX and LDAX (44_data_transfer.md R171, R172). -/
def State.indexPair (s : State) (x : IndexPair) : Addr :=
  match x with
  | .b => s.bc
  | .d => s.de

/-- `PSW`: A and the flag byte (10_state.md R26, R37). -/
def State.psw (s : State) : Addr := joinBytes s.a (flagsByte s.flags)

/-- A and the flags from a popped word (10_state.md R38, 42_register_pair.md R143). -/
def State.setPsw (s : State) (w : Addr) : State := (s.setFlags (flagsOfByte (loByte w))).setA (hiByte w)

/-- A result put into A, with its flags. -/
def State.accumulate (s : State) (r : AluResult) : State := (s.setFlags r.flags).setA r.value

/-- Jump if a condition holds (48_branching.md R232 to R239). -/
def State.jumpIf (s : State) (cond : Cond) (target : Addr) : State :=
  if condHolds cond s.flags then s.setPc target else s

/-- Call if a condition holds (48_branching.md R241 to R248): otherwise no push. -/
def State.callIf (s : State) (cond : Cond) (target : Addr) : State :=
  if condHolds cond s.flags then s.callTo target else s

/-- Return if a condition holds (48_branching.md R251 to R258): otherwise no memory access. -/
def State.returnIf (s : State) (cond : Cond) : State :=
  if condHolds cond s.flags then s.returnFrom else s

/-- The two address bytes after the opcode at PC, for the undefined bytes that `UndocAliases` makes 3 bytes long
(30_encoding.md R96; log entry 12). -/
def State.aliasAddr16 (s : State) : Addr := s.peek16 (s.pc + 1)

/-- The state after those two bytes are fetched. -/
def State.touchAlias (s : State) : State := s.touch16 (s.pc + 1)

end Sys2Proof.Machine
end

