-- ==== Sys2Proof/Machine/Accumulator.lean ====
section
/-! DEFINITION. The register/memory to accumulator instructions (45_register_memory_to_accumulator.md R180 to R187). -/

namespace Sys2Proof.Machine

/-- ADD SSS (R180). -/
def execAdd (src : Reg8) (s : State) : Result :=
  .next (((s.advance 1).touchOperand src).accumulate (add8 s.a (s.operand src) false))

/-- ADC SSS (R181): with the old CY. -/
def execAdc (src : Reg8) (s : State) : Result :=
  .next (((s.advance 1).touchOperand src).accumulate (add8 s.a (s.operand src) s.flags.cy))

/-- SUB SSS (R182). -/
def execSub (src : Reg8) (s : State) : Result :=
  .next (((s.advance 1).touchOperand src).accumulate (sub8 s.a (s.operand src) false))

/-- SBB SSS (R183): with the old CY as borrow. -/
def execSbb (src : Reg8) (s : State) : Result :=
  .next (((s.advance 1).touchOperand src).accumulate (sub8 s.a (s.operand src) s.flags.cy))

/-- ANA SSS (R184). -/
def execAna (src : Reg8) (s : State) : Result :=
  .next (((s.advance 1).touchOperand src).accumulate (and8 s.a (s.operand src)))

/-- XRA SSS (R185). -/
def execXra (src : Reg8) (s : State) : Result :=
  .next (((s.advance 1).touchOperand src).accumulate (xor8 s.a (s.operand src)))

/-- ORA SSS (R186). -/
def execOra (src : Reg8) (s : State) : Result :=
  .next (((s.advance 1).touchOperand src).accumulate (or8 s.a (s.operand src)))

/-- CMP SSS (R187): the flags of SUB, A not written. -/
def execCmp (src : Reg8) (s : State) : Result :=
  .next (((s.advance 1).touchOperand src).setFlags (sub8 s.a (s.operand src) false).flags)

end Sys2Proof.Machine
end

