-- ==== Sys2Proof/Machine/Branch.lean ====
section
/-! DEFINITION. The branching instructions (48_branching.md R230 to R258). No branching instruction changes a flag. -/

namespace Sys2Proof.Machine

/-- PCHL (R230): PC loaded from HL. -/
def execPchl (s : State) : Result :=
  .next ((s.advance 1).setPc s.hl)

/-- JMP addr16 (R231). -/
def execJmp (addr16 : Addr) (s : State) : Result :=
  .next ((s.advance 3).setPc addr16)

/-- JC addr16 (R232): jump if carry. -/
def execJc (addr16 : Addr) (s : State) : Result :=
  .next ((s.advance 3).jumpIf .c addr16)

/-- JNC addr16 (R233): jump if no carry. -/
def execJnc (addr16 : Addr) (s : State) : Result :=
  .next ((s.advance 3).jumpIf .nc addr16)

/-- JZ addr16 (R234): jump if zero. -/
def execJz (addr16 : Addr) (s : State) : Result :=
  .next ((s.advance 3).jumpIf .z addr16)

/-- JNZ addr16 (R235): jump if not zero. -/
def execJnz (addr16 : Addr) (s : State) : Result :=
  .next ((s.advance 3).jumpIf .nz addr16)

/-- JM addr16 (R236): jump if minus. -/
def execJm (addr16 : Addr) (s : State) : Result :=
  .next ((s.advance 3).jumpIf .m addr16)

/-- JP addr16 (R237): jump if plus. -/
def execJp (addr16 : Addr) (s : State) : Result :=
  .next ((s.advance 3).jumpIf .p addr16)

/-- JPE addr16 (R238): jump if parity even. -/
def execJpe (addr16 : Addr) (s : State) : Result :=
  .next ((s.advance 3).jumpIf .pe addr16)

/-- JPO addr16 (R239): jump if parity odd. -/
def execJpo (addr16 : Addr) (s : State) : Result :=
  .next ((s.advance 3).jumpIf .po addr16)

/-- CALL addr16 (R240): the address after the CALL is pushed. -/
def execCall (addr16 : Addr) (s : State) : Result :=
  .next ((s.advance 3).callTo addr16)

/-- CC addr16 (R241): call if carry. -/
def execCc (addr16 : Addr) (s : State) : Result :=
  .next ((s.advance 3).callIf .c addr16)

/-- CNC addr16 (R242): call if no carry. -/
def execCnc (addr16 : Addr) (s : State) : Result :=
  .next ((s.advance 3).callIf .nc addr16)

/-- CZ addr16 (R243): call if zero. -/
def execCz (addr16 : Addr) (s : State) : Result :=
  .next ((s.advance 3).callIf .z addr16)

/-- CNZ addr16 (R244): call if not zero. -/
def execCnz (addr16 : Addr) (s : State) : Result :=
  .next ((s.advance 3).callIf .nz addr16)

/-- CM addr16 (R245): call if minus. -/
def execCm (addr16 : Addr) (s : State) : Result :=
  .next ((s.advance 3).callIf .m addr16)

/-- CP addr16 (R246): call if plus. -/
def execCp (addr16 : Addr) (s : State) : Result :=
  .next ((s.advance 3).callIf .p addr16)

/-- CPE addr16 (R247): call if parity even. -/
def execCpe (addr16 : Addr) (s : State) : Result :=
  .next ((s.advance 3).callIf .pe addr16)

/-- CPO addr16 (R248): call if parity odd. -/
def execCpo (addr16 : Addr) (s : State) : Result :=
  .next ((s.advance 3).callIf .po addr16)

/-- RET (R250). -/
def execRet (s : State) : Result :=
  .next ((s.advance 1).returnFrom)

/-- RC (R251): return if carry. -/
def execRc (s : State) : Result :=
  .next ((s.advance 1).returnIf .c)

/-- RNC (R252): return if no carry. -/
def execRnc (s : State) : Result :=
  .next ((s.advance 1).returnIf .nc)

/-- RZ (R253): return if zero. -/
def execRz (s : State) : Result :=
  .next ((s.advance 1).returnIf .z)

/-- RNZ (R254): return if not zero. -/
def execRnz (s : State) : Result :=
  .next ((s.advance 1).returnIf .nz)

/-- RM (R255): return if minus. -/
def execRm (s : State) : Result :=
  .next ((s.advance 1).returnIf .m)

/-- RP (R256): return if plus. -/
def execRp (s : State) : Result :=
  .next ((s.advance 1).returnIf .p)

/-- RPE (R257): return if parity even. -/
def execRpe (s : State) : Result :=
  .next ((s.advance 1).returnIf .pe)

/-- RPO (R258): return if parity odd. -/
def execRpo (s : State) : Result :=
  .next ((s.advance 1).returnIf .po)

end Sys2Proof.Machine
end

