-- ==== Sys2Proof/Machine/Command.lean ====
section
/-! DEFINITION. The command instructions (40_command.md R110 to R118). -/

namespace Sys2Proof.Machine

/-- IN port (R110): A receives what the environment answers; the event is recorded. -/
def execInPort (port : Byte) (s : State) : Result :=
  .next (((s.advance 2).ioRead port).setA (s.ioAnswer port))

/-- OUT port (R111): A goes to the port; the event is recorded. -/
def execOutPort (port : Byte) (s : State) : Result :=
  .next ((s.advance 2).ioWrite port s.a)

/-- EI (R112): INTE is set, and EI_SHADOW for one instruction. -/
def execEi (s : State) : Result :=
  .next (((s.advance 1).setInte true).setEiShadow true)

/-- DI (R113): INTE is cleared. -/
def execDi (s : State) : Result :=
  .next ((s.advance 1).setInte false)

/-- HLT (R114): HALTED is set, PC already past the HLT. -/
def execHlt (s : State) : Result :=
  .next ((s.advance 1).setHalted true)

/-- RST exp (R115): push the address of the next instruction, go to 8 * exp; INTE is not changed. -/
def execRst (exp : BitVec 3) (s : State) : Result :=
  .next ((s.advance 1).restart exp)

/-- CMC (R116): CY complemented, no other flag. -/
def execCmc (s : State) : Result :=
  .next ((s.advance 1).setFlags { s.flags with cy := !s.flags.cy })

/-- STC (R117): CY set, no other flag. -/
def execStc (s : State) : Result :=
  .next ((s.advance 1).setFlags { s.flags with cy := true })

/-- NOP (R118): only PC moves, and EI_SHADOW clears. -/
def execNop (s : State) : Result :=
  .next (s.advance 1)

end Sys2Proof.Machine
end

