-- ==== Sys2Proof/Machine/DataTransfer.lean ====
section
/-! DEFINITION. The data transfer instructions (44_data_transfer.md R170 to R172). -/

namespace Sys2Proof.Machine

/-- MOV DDD,SSS (R170): the source operand is read, then the destination written. -/
def execMov (dst : Reg8) (src : Reg8) (s : State) : Result :=
  .next (((s.advance 1).touchOperand src).setOperand dst (s.operand src))

/-- STAX rp (R171): A stored at BC or DE. -/
def execStax (x : IndexPair) (s : State) : Result :=
  .next ((s.advance 1).store (s.indexPair x) s.a)

/-- LDAX rp (R172): A loaded from BC or DE. -/
def execLdax (x : IndexPair) (s : State) : Result :=
  .next (((s.advance 1).touch (s.indexPair x)).setA (s.peek (s.indexPair x)))

end Sys2Proof.Machine
end

