-- ==== Sys2Proof/Machine/Direct.lean ====
section
/-! DEFINITION. The direct addressing instructions (46_direct_addressing.md R200 to R203). -/

namespace Sys2Proof.Machine

/-- STA addr16 (R200). -/
def execSta (addr16 : Addr) (s : State) : Result :=
  .next ((s.advance 3).store addr16 s.a)

/-- LDA addr16 (R201). -/
def execLda (addr16 : Addr) (s : State) : Result :=
  .next (((s.advance 3).touch addr16).setA (s.peek addr16))

/-- SHLD addr16 (R202): L at addr16, H at addr16 + 1. -/
def execShld (addr16 : Addr) (s : State) : Result :=
  .next ((s.advance 3).store16 addr16 s.hl)

/-- LHLD addr16 (R203): L from addr16, H from addr16 + 1. -/
def execLhld (addr16 : Addr) (s : State) : Result :=
  .next (((s.advance 3).touch16 addr16).setHl (s.peek16 addr16))

end Sys2Proof.Machine
end

