-- ==== Sys2Proof/Machine/Immediate.lean ====
section
/-! DEFINITION. The immediate instructions (47_immediate.md R210 to R219). -/

namespace Sys2Proof.Machine

/-- LXI rp,data16 (R210). -/
def execLxi (rp : Pair) (data16 : Addr) (s : State) : Result :=
  .next ((s.advance 3).setPair rp data16)

/-- MVI DDD,data8 (R211): for M a write at HL, no read. -/
def execMvi (dst : Reg8) (data8 : Byte) (s : State) : Result :=
  .next ((s.advance 2).setOperand dst data8)

/-- ADI data8 (R212). -/
def execAdi (data8 : Byte) (s : State) : Result :=
  .next ((s.advance 2).accumulate (add8 s.a data8 false))

/-- ACI data8 (R213): with the old CY. -/
def execAci (data8 : Byte) (s : State) : Result :=
  .next ((s.advance 2).accumulate (add8 s.a data8 s.flags.cy))

/-- SUI data8 (R214). -/
def execSui (data8 : Byte) (s : State) : Result :=
  .next ((s.advance 2).accumulate (sub8 s.a data8 false))

/-- SBI data8 (R215): with the old CY as borrow. -/
def execSbi (data8 : Byte) (s : State) : Result :=
  .next ((s.advance 2).accumulate (sub8 s.a data8 s.flags.cy))

/-- ANI data8 (R216). -/
def execAni (data8 : Byte) (s : State) : Result :=
  .next ((s.advance 2).accumulate (and8 s.a data8))

/-- XRI data8 (R217). -/
def execXri (data8 : Byte) (s : State) : Result :=
  .next ((s.advance 2).accumulate (xor8 s.a data8))

/-- ORI data8 (R218). -/
def execOri (data8 : Byte) (s : State) : Result :=
  .next ((s.advance 2).accumulate (or8 s.a data8))

/-- CPI data8 (R219): the flags of SUI, A not written. -/
def execCpi (data8 : Byte) (s : State) : Result :=
  .next ((s.advance 2).setFlags (sub8 s.a data8 false).flags)

end Sys2Proof.Machine
end

