-- ==== Sys2Proof/Machine/RegisterPair.lean ====
section
/-! DEFINITION. The register pair instructions (42_register_pair.md R140 to R149). -/

namespace Sys2Proof.Machine

/-- PUSH rp, B, D or H (R140). -/
def execPush (rp : StackPair) (s : State) : Result :=
  .next ((s.advance 1).push16 (s.stackPair rp))

/-- PUSH PSW (R141): A at SP - 1, the flag byte at SP - 2. -/
def execPushPsw (s : State) : Result :=
  .next ((s.advance 1).push16 s.psw)

/-- POP rp, B, D or H (R142). -/
def execPop (rp : StackPair) (s : State) : Result :=
  .next ((s.advance 1).popped.setStackPair rp (s.peek16 s.sp))

/-- POP PSW (R143): the flags from the byte at SP, A from the byte at SP + 1. -/
def execPopPsw (s : State) : Result :=
  .next ((s.advance 1).popped.setPsw (s.peek16 s.sp))

/-- DAD rp (R144): HL plus the pair; CY the carry out of bit 15, no other flag. -/
def execDad (rp : Pair) (s : State) : Result :=
  .next (((s.advance 1).setFlags (dadFlags s.hl (s.pair rp) s.flags)).setHl (s.hl + s.pair rp))

/-- INX rp (R145): the pair plus one, no flag. -/
def execInx (rp : Pair) (s : State) : Result :=
  .next ((s.advance 1).setPair rp (s.pair rp + 1))

/-- DCX rp (R146): the pair minus one, no flag. -/
def execDcx (rp : Pair) (s : State) : Result :=
  .next ((s.advance 1).setPair rp (s.pair rp - 1))

/-- XCHG (R147): HL and DE exchanged. -/
def execXchg (s : State) : Result :=
  .next (((s.advance 1).setHl s.de).setDe s.hl)

/-- XTHL (R148): HL and the word on top of the stack exchanged: both bytes are read, then H written at SP + 1 and L at SP. -/
def execXthl (s : State) : Result :=
  .next (((((s.advance 1).touch16 s.sp).store (s.sp + 1) s.h).store s.sp s.l).setHl (s.peek16 s.sp))

/-- SPHL (R149): SP loaded from HL. -/
def execSphl (s : State) : Result :=
  .next ((s.advance 1).setSp s.hl)

end Sys2Proof.Machine
end

