-- ==== Sys2Proof/Machine/Rotate.lean ====
section
/-! DEFINITION. The rotate accumulator instructions (43_rotate_accumulator.md R160 to R163). -/

namespace Sys2Proof.Machine

/-- RLC (R160). -/
def execRlc (s : State) : Result :=
  .next ((s.advance 1).accumulate (rotateLeft s.a s.flags))

/-- RRC (R161). -/
def execRrc (s : State) : Result :=
  .next ((s.advance 1).accumulate (rotateRight s.a s.flags))

/-- RAL (R162). -/
def execRal (s : State) : Result :=
  .next ((s.advance 1).accumulate (rotateLeftCarry s.a s.flags))

/-- RAR (R163). -/
def execRar (s : State) : Result :=
  .next ((s.advance 1).accumulate (rotateRightCarry s.a s.flags))

end Sys2Proof.Machine
end

