-- ==== Sys2Proof/Machine/SingleRegister.lean ====
section
/-! DEFINITION. The single register instructions (41_single_register.md R130 to R133). -/

namespace Sys2Proof.Machine

/-- INR DDD (R130): the operand plus one; S, Z, P, AC from it, CY kept. For M a read, then a write, of the byte at HL. -/
def execInr (dst : Reg8) (s : State) : Result :=
  .next ((((s.advance 1).touchOperand dst).setFlags (inc8 (s.operand dst) s.flags).flags).setOperand dst (inc8 (s.operand dst) s.flags).value)

/-- DCR DDD (R131): the operand minus one; S, Z, P, AC from it, CY kept. For M a read, then a write, of the byte at HL. -/
def execDcr (dst : Reg8) (s : State) : Result :=
  .next ((((s.advance 1).touchOperand dst).setFlags (dec8 (s.operand dst) s.flags).flags).setOperand dst (dec8 (s.operand dst) s.flags).value)

/-- CMA (R132): every bit of A inverted, no flag. -/
def execCma (s : State) : Result :=
  .next ((s.advance 1).setA (~~~s.a))

/-- DAA (R133): one correcting addition. -/
def execDaa (s : State) : Result :=
  .next ((s.advance 1).accumulate (daa8 s.a s.flags))

end Sys2Proof.Machine
end

