-- ==== Sys2Proof/Machine/Undefined.lean ====
section
/-! DEFINITION. The twelve opcode bytes in no row of the source (30_encoding.md R95, R96; 60_exceptions.md R270). -/

namespace Sys2Proof.Machine

/-- The byte 0x08 (R96): with `UndocAliases` it executes as NOP, otherwise it raises UndefinedOpcode (R270). -/
def execUndefined08 (s : State) : Result :=
  if s.plat.undocAliases then .next (s.advance 1)
  else .next (s.raiseUndefined 0x08)

/-- The byte 0x10 (R96): with `UndocAliases` it executes as NOP, otherwise it raises UndefinedOpcode (R270). -/
def execUndefined10 (s : State) : Result :=
  if s.plat.undocAliases then .next (s.advance 1)
  else .next (s.raiseUndefined 0x10)

/-- The byte 0x18 (R96): with `UndocAliases` it executes as NOP, otherwise it raises UndefinedOpcode (R270). -/
def execUndefined18 (s : State) : Result :=
  if s.plat.undocAliases then .next (s.advance 1)
  else .next (s.raiseUndefined 0x18)

/-- The byte 0x20 (R96): with `UndocAliases` it executes as NOP, otherwise it raises UndefinedOpcode (R270). -/
def execUndefined20 (s : State) : Result :=
  if s.plat.undocAliases then .next (s.advance 1)
  else .next (s.raiseUndefined 0x20)

/-- The byte 0x28 (R96): with `UndocAliases` it executes as NOP, otherwise it raises UndefinedOpcode (R270). -/
def execUndefined28 (s : State) : Result :=
  if s.plat.undocAliases then .next (s.advance 1)
  else .next (s.raiseUndefined 0x28)

/-- The byte 0x30 (R96): with `UndocAliases` it executes as NOP, otherwise it raises UndefinedOpcode (R270). -/
def execUndefined30 (s : State) : Result :=
  if s.plat.undocAliases then .next (s.advance 1)
  else .next (s.raiseUndefined 0x30)

/-- The byte 0x38 (R96): with `UndocAliases` it executes as NOP, otherwise it raises UndefinedOpcode (R270). -/
def execUndefined38 (s : State) : Result :=
  if s.plat.undocAliases then .next (s.advance 1)
  else .next (s.raiseUndefined 0x38)

/-- The byte 0xCB (R96): with `UndocAliases` it executes as JMP addr16, otherwise it raises UndefinedOpcode (R270). -/
def execUndefinedCB (s : State) : Result :=
  if s.plat.undocAliases then .next ((s.touchAlias.advance 3).setPc s.aliasAddr16)
  else .next (s.raiseUndefined 0xCB)

/-- The byte 0xD9 (R96): with `UndocAliases` it executes as RET, otherwise it raises UndefinedOpcode (R270). -/
def execUndefinedD9 (s : State) : Result :=
  if s.plat.undocAliases then .next ((s.advance 1).returnFrom)
  else .next (s.raiseUndefined 0xD9)

/-- The byte 0xDD (R96): with `UndocAliases` it executes as CALL addr16, otherwise it raises UndefinedOpcode (R270). -/
def execUndefinedDD (s : State) : Result :=
  if s.plat.undocAliases then .next ((s.touchAlias.advance 3).callTo s.aliasAddr16)
  else .next (s.raiseUndefined 0xDD)

/-- The byte 0xED (R96): with `UndocAliases` it executes as CALL addr16, otherwise it raises UndefinedOpcode (R270). -/
def execUndefinedED (s : State) : Result :=
  if s.plat.undocAliases then .next ((s.touchAlias.advance 3).callTo s.aliasAddr16)
  else .next (s.raiseUndefined 0xED)

/-- The byte 0xFD (R96): with `UndocAliases` it executes as CALL addr16, otherwise it raises UndefinedOpcode (R270). -/
def execUndefinedFD (s : State) : Result :=
  if s.plat.undocAliases then .next ((s.touchAlias.advance 3).callTo s.aliasAddr16)
  else .next (s.raiseUndefined 0xFD)

end Sys2Proof.Machine
end

