-- ==== Sys2Proof/Machine/Dispatch.lean ====
section
/-! DEFINITION. The dispatch: one arm for each constructor, each one direct call of its meaning. -/

namespace Sys2Proof.Machine

/-- The effect of an instruction in a state whose PC is the address of its opcode byte (30_encoding.md R102 step 4). -/
def exec (i : Instr) (s : State) : Host.Outcome State Fault Refusal :=
  match i with
  | .inPort port => Sys2Proof.Machine.execInPort port s
  | .outPort port => Sys2Proof.Machine.execOutPort port s
  | .ei => Sys2Proof.Machine.execEi s
  | .di => Sys2Proof.Machine.execDi s
  | .hlt => Sys2Proof.Machine.execHlt s
  | .rst exp => Sys2Proof.Machine.execRst exp s
  | .cmc => Sys2Proof.Machine.execCmc s
  | .stc => Sys2Proof.Machine.execStc s
  | .nop => Sys2Proof.Machine.execNop s
  | .inr dst => Sys2Proof.Machine.execInr dst s
  | .dcr dst => Sys2Proof.Machine.execDcr dst s
  | .cma => Sys2Proof.Machine.execCma s
  | .daa => Sys2Proof.Machine.execDaa s
  | .push rp => Sys2Proof.Machine.execPush rp s
  | .pushPsw => Sys2Proof.Machine.execPushPsw s
  | .pop rp => Sys2Proof.Machine.execPop rp s
  | .popPsw => Sys2Proof.Machine.execPopPsw s
  | .dad rp => Sys2Proof.Machine.execDad rp s
  | .inx rp => Sys2Proof.Machine.execInx rp s
  | .dcx rp => Sys2Proof.Machine.execDcx rp s
  | .xchg => Sys2Proof.Machine.execXchg s
  | .xthl => Sys2Proof.Machine.execXthl s
  | .sphl => Sys2Proof.Machine.execSphl s
  | .rlc => Sys2Proof.Machine.execRlc s
  | .rrc => Sys2Proof.Machine.execRrc s
  | .ral => Sys2Proof.Machine.execRal s
  | .rar => Sys2Proof.Machine.execRar s
  | .mov dst src => Sys2Proof.Machine.execMov dst src s
  | .stax x => Sys2Proof.Machine.execStax x s
  | .ldax x => Sys2Proof.Machine.execLdax x s
  | .add src => Sys2Proof.Machine.execAdd src s
  | .adc src => Sys2Proof.Machine.execAdc src s
  | .sub src => Sys2Proof.Machine.execSub src s
  | .sbb src => Sys2Proof.Machine.execSbb src s
  | .ana src => Sys2Proof.Machine.execAna src s
  | .xra src => Sys2Proof.Machine.execXra src s
  | .ora src => Sys2Proof.Machine.execOra src s
  | .cmp src => Sys2Proof.Machine.execCmp src s
  | .sta addr16 => Sys2Proof.Machine.execSta addr16 s
  | .lda addr16 => Sys2Proof.Machine.execLda addr16 s
  | .shld addr16 => Sys2Proof.Machine.execShld addr16 s
  | .lhld addr16 => Sys2Proof.Machine.execLhld addr16 s
  | .lxi rp data16 => Sys2Proof.Machine.execLxi rp data16 s
  | .mvi dst data8 => Sys2Proof.Machine.execMvi dst data8 s
  | .adi data8 => Sys2Proof.Machine.execAdi data8 s
  | .aci data8 => Sys2Proof.Machine.execAci data8 s
  | .sui data8 => Sys2Proof.Machine.execSui data8 s
  | .sbi data8 => Sys2Proof.Machine.execSbi data8 s
  | .ani data8 => Sys2Proof.Machine.execAni data8 s
  | .xri data8 => Sys2Proof.Machine.execXri data8 s
  | .ori data8 => Sys2Proof.Machine.execOri data8 s
  | .cpi data8 => Sys2Proof.Machine.execCpi data8 s
  | .pchl => Sys2Proof.Machine.execPchl s
  | .jmp addr16 => Sys2Proof.Machine.execJmp addr16 s
  | .jc addr16 => Sys2Proof.Machine.execJc addr16 s
  | .jnc addr16 => Sys2Proof.Machine.execJnc addr16 s
  | .jz addr16 => Sys2Proof.Machine.execJz addr16 s
  | .jnz addr16 => Sys2Proof.Machine.execJnz addr16 s
  | .jm addr16 => Sys2Proof.Machine.execJm addr16 s
  | .jp addr16 => Sys2Proof.Machine.execJp addr16 s
  | .jpe addr16 => Sys2Proof.Machine.execJpe addr16 s
  | .jpo addr16 => Sys2Proof.Machine.execJpo addr16 s
  | .call addr16 => Sys2Proof.Machine.execCall addr16 s
  | .cc addr16 => Sys2Proof.Machine.execCc addr16 s
  | .cnc addr16 => Sys2Proof.Machine.execCnc addr16 s
  | .cz addr16 => Sys2Proof.Machine.execCz addr16 s
  | .cnz addr16 => Sys2Proof.Machine.execCnz addr16 s
  | .cm addr16 => Sys2Proof.Machine.execCm addr16 s
  | .cp addr16 => Sys2Proof.Machine.execCp addr16 s
  | .cpe addr16 => Sys2Proof.Machine.execCpe addr16 s
  | .cpo addr16 => Sys2Proof.Machine.execCpo addr16 s
  | .ret => Sys2Proof.Machine.execRet s
  | .rc => Sys2Proof.Machine.execRc s
  | .rnc => Sys2Proof.Machine.execRnc s
  | .rz => Sys2Proof.Machine.execRz s
  | .rnz => Sys2Proof.Machine.execRnz s
  | .rm => Sys2Proof.Machine.execRm s
  | .rp => Sys2Proof.Machine.execRp s
  | .rpe => Sys2Proof.Machine.execRpe s
  | .rpo => Sys2Proof.Machine.execRpo s
  | .undefined08 => Sys2Proof.Machine.execUndefined08 s
  | .undefined10 => Sys2Proof.Machine.execUndefined10 s
  | .undefined18 => Sys2Proof.Machine.execUndefined18 s
  | .undefined20 => Sys2Proof.Machine.execUndefined20 s
  | .undefined28 => Sys2Proof.Machine.execUndefined28 s
  | .undefined30 => Sys2Proof.Machine.execUndefined30 s
  | .undefined38 => Sys2Proof.Machine.execUndefined38 s
  | .undefinedCB => Sys2Proof.Machine.execUndefinedCB s
  | .undefinedD9 => Sys2Proof.Machine.execUndefinedD9 s
  | .undefinedDD => Sys2Proof.Machine.execUndefinedDD s
  | .undefinedED => Sys2Proof.Machine.execUndefinedED s
  | .undefinedFD => Sys2Proof.Machine.execUndefinedFD s

end Sys2Proof.Machine
end

