-- ==== Sys2Proof/Machine/Step.lean ====
section
/-! DEFINITION. One step of the machine (30_encoding.md R102), and where the host places an instruction. -/

namespace Sys2Proof.Machine

/-- Fetch at PC and execute (30_encoding.md R102 step 4). -/
def runNext (s : State) : Result := exec s.fetch.1 s.fetch.2

/-- One step (30_encoding.md R102, 60_exceptions.md R280): no step exists once FAULT is set; then, in this order, reset, an
acceptable interrupt, idling when halted, the next instruction. -/
def step (s : State) : Host.Outcome State Fault Refusal :=
  match s.fault with
  | some r => .fault r
  | none =>
    if s.boundary.reset then .next s.passBoundary.applyReset
    else
      match s.acceptable with
      | some n => .next (s.passBoundary.acceptInterrupt n)
      | none => if s.halted then .next s.passBoundary else runNext s.passBoundary

/-- The state with an instruction's bytes in memory at PC, PC + 1 and PC + 2 (the bits above `nbits` zero): the part of
`InitMem` that holds the program's next instruction (20_memory.md R51, log entry 10). -/
def State.withFetchWord (s : State) (nbits w : Nat) : State :=
  let place (m : Memory) (k : Nat) (v : Byte) : Memory := Memory.write m (s.pc + BitVec.ofNat 16 k).toNat v
  match tableBytes nbits w with
  | [op, byte2, byte3] => s.setMem (place (place (place s.mem 0 op) 1 byte2) 2 byte3)
  | _ => s

end Sys2Proof.Machine
end

