-- ==== Sys2Proof/Safety.lean ====
section
/-! DEFINITION. The outcomes of a run (60_exceptions.md R286), the invariant of the machine, and the terms in which the
statements say what an instruction leaves unchanged (10_state.md R27, R44; 20_memory.md R60). -/

namespace Sys2Proof.Machine

/-! ### Outcomes of a run -/

/-- A final state: HALTED = 1, INTE = 0, FAULT = none (60_exceptions.md R286). -/
def State.Final (s : State) : Prop := s.halted = true ∧ s.inte = false ∧ s.fault = none

/-- The machine runs the instruction at PC in its next step: no fault, no reset, no interrupt accepted, not halted
(30_encoding.md R102). -/
def State.Running (s : State) : Prop :=
  s.fault = none ∧ s.boundary.reset = false ∧ s.acceptable = none ∧ s.halted = false

/-! ### The invariant -/

/-- The fault mark tells the truth (60_exceptions.md R270): the byte is one of the twelve, it stands at PC, the address
recorded, and the aliases are off. -/
def State.FaultMarkTrue (s : State) : Prop :=
  ∀ op addr, s.fault = some (.undefinedOpcode op addr) →
    op ∈ undefinedOpcodes ∧ addr = s.pc ∧ s.plat.undocAliases = false ∧ s.halted = false ∧
      (s.memKind s.pc ≠ .none → s.stored s.pc = op)

/-- What every step keeps: memory in canonical form; EI_SHADOW only while interrupts are enabled and the processor is not
halted (10_state.md R41); a truthful fault mark. -/
def State.Inv (s : State) : Prop :=
  Memory.wf s.mem = true ∧ (s.eiShadow = true → s.inte = true ∧ s.halted = false) ∧ s.FaultMarkTrue

/-! ### Frames -/

/-- Every 8-bit register outside the list holds what it held. -/
def KeepsRegisters (s t : State) (written : List Reg8) : Prop :=
  ∀ r, r ≠ .m → r ∉ written → t.operand r = s.operand r

/-- Every flag outside the marked ones is as it was. -/
def KeepsFlags (s t : State) (written : Flags) : Prop :=
  (written.s = false → t.flags.s = s.flags.s) ∧ (written.z = false → t.flags.z = s.flags.z) ∧
  (written.ac = false → t.flags.ac = s.flags.ac) ∧ (written.p = false → t.flags.p = s.flags.p) ∧
  (written.cy = false → t.flags.cy = s.flags.cy)

/-- Every byte of memory outside the listed addresses reads as it did. -/
def KeepsMemory (s t : State) (stores : List Addr) : Prop :=
  ∀ x, x ∉ stores → t.stored x = s.stored x

/-- INTE, HALTED, FAULT, IoTrace and the platform are as they were, and EI_SHADOW is clear (10_state.md R41). -/
def KeepsControl (s t : State) : Prop :=
  t.inte = s.inte ∧ t.halted = s.halted ∧ t.fault = s.fault ∧ t.ioTrace = s.ioTrace ∧ t.plat = s.plat ∧
    t.eiShadow = false

/-- A byte is in memory at an address after a store: at a RAM address the byte stored, elsewhere what was there
(20_memory.md R53). -/
def StoredAt (s t : State) (addr : Addr) (v : Byte) : Prop :=
  t.stored addr = if s.memKind addr = .ram then v else s.stored addr

/-- These bytes are an instruction, whatever follows them. -/
def DecodesTo (bytes : List Byte) (i : Instr) : Prop := ∀ rest, decode (bytes ++ rest) = .ok (i, rest)

/-! ### Who writes what, as the spec's tables say -/

/-- The registers of a pair. -/
def pairRegisters : Pair → List Reg8
  | .b => [.b, .c]
  | .d => [.d, .e]
  | .h => [.h, .l]
  | .sp => []

/-- The registers of a PUSH or POP pair. -/
def stackPairRegisters : StackPair → List Reg8
  | .b => [.b, .c]
  | .d => [.d, .e]
  | .h => [.h, .l]

/-- The 8-bit registers an instruction may write (10_state.md R27, column "written by"). -/
def registersWritten : Instr → List Reg8
  | .mov dst _ | .mvi dst _ | .inr dst | .dcr dst => [dst]
  | .lxi rp _ | .inx rp | .dcx rp => pairRegisters rp
  | .pop rp => stackPairRegisters rp
  | .xchg => [.d, .e, .h, .l]
  | .lhld _ | .dad _ | .xthl => [.h, .l]
  | .add _ | .adc _ | .sub _ | .sbb _ | .ana _ | .xra _ | .ora _ => [.a]
  | .adi _ | .aci _ | .sui _ | .sbi _ | .ani _ | .xri _ | .ori _ => [.a]
  | .rlc | .rrc | .ral | .rar | .cma | .daa | .lda _ | .ldax _ | .inPort _ | .popPsw => [.a]
  | .outPort _ | .ei | .di | .hlt | .rst _ | .cmc | .stc | .nop | .push _ | .pushPsw | .sphl | .stax _ | .cmp _
  | .sta _ | .shld _ | .cpi _ | .pchl | .jmp _ | .jc _ | .jnc _ | .jz _ | .jnz _ | .jm _ | .jp _ | .jpe _
  | .jpo _ | .call _ | .cc _ | .cnc _ | .cz _ | .cnz _ | .cm _ | .cp _ | .cpe _ | .cpo _ | .ret | .rc | .rnc
  | .rz | .rnz | .rm | .rp | .rpe | .rpo | .undefined08 | .undefined10 | .undefined18 | .undefined20
  | .undefined28 | .undefined30 | .undefined38 | .undefinedCB | .undefinedD9 | .undefinedDD | .undefinedED
  | .undefinedFD => []

/-- May an instruction write SP in this state (10_state.md R27): the stack instructions, conditional ones when taken. -/
def writesSp (i : Instr) (s : State) : Bool :=
  match i with
  | .lxi rp _ | .inx rp | .dcx rp => rp == .sp
  | .sphl | .push _ | .pushPsw | .pop _ | .popPsw | .call _ | .ret | .rst _ => true
  | .cc _ | .rc => condHolds .c s.flags
  | .cnc _ | .rnc => condHolds .nc s.flags
  | .cz _ | .rz => condHolds .z s.flags
  | .cnz _ | .rnz => condHolds .nz s.flags
  | .cm _ | .rm => condHolds .m s.flags
  | .cp _ | .rp => condHolds .p s.flags
  | .cpe _ | .rpe => condHolds .pe s.flags
  | .cpo _ | .rpo => condHolds .po s.flags
  | .undefinedD9 | .undefinedDD | .undefinedED | .undefinedFD => s.plat.undocAliases
  | .inPort _ | .outPort _ | .ei | .di | .hlt | .cmc | .stc | .nop | .inr _ | .dcr _ | .cma | .daa | .dad _
  | .xchg | .xthl | .rlc | .rrc | .ral | .rar | .mov _ _ | .stax _ | .ldax _ | .add _ | .adc _ | .sub _ | .sbb _
  | .ana _ | .xra _ | .ora _ | .cmp _ | .sta _ | .lda _ | .shld _ | .lhld _ | .mvi _ _ | .adi _ | .aci _
  | .sui _ | .sbi _ | .ani _ | .xri _ | .ori _ | .cpi _ | .pchl | .jmp _ | .jc _ | .jnc _ | .jz _ | .jnz _
  | .jm _ | .jp _ | .jpe _ | .jpo _ | .undefined08 | .undefined10 | .undefined18 | .undefined20 | .undefined28
  | .undefined30 | .undefined38 | .undefinedCB => false

/-- The flags an instruction may write: those whose column of 10_state.md R44 is not "-". -/
def flagsWritten : Instr → Flags
  | .add _ | .adc _ | .adi _ | .aci _ | .sub _ | .sbb _ | .sui _ | .sbi _ | .cmp _ | .cpi _ | .ana _ | .ani _
  | .xra _ | .xri _ | .ora _ | .ori _ | .daa | .popPsw => { s := true, z := true, ac := true, p := true, cy := true }
  | .inr _ | .dcr _ => { s := true, z := true, ac := true, p := true, cy := false }
  | .dad _ | .rlc | .rrc | .ral | .rar | .stc | .cmc => { s := false, z := false, ac := false, p := false, cy := true }
  | .inPort _ | .outPort _ | .ei | .di | .hlt | .rst _ | .nop | .cma | .push _ | .pushPsw | .pop _ | .inx _
  | .dcx _ | .xchg | .xthl | .sphl | .mov _ _ | .stax _ | .ldax _ | .sta _ | .lda _ | .shld _ | .lhld _
  | .lxi _ _ | .mvi _ _ | .pchl | .jmp _ | .jc _ | .jnc _ | .jz _ | .jnz _ | .jm _ | .jp _ | .jpe _ | .jpo _
  | .call _ | .cc _ | .cnc _ | .cz _ | .cnz _ | .cm _ | .cp _ | .cpe _ | .cpo _ | .ret | .rc | .rnc | .rz | .rnz
  | .rm | .rp | .rpe | .rpo | .undefined08 | .undefined10 | .undefined18 | .undefined20 | .undefined28
  | .undefined30 | .undefined38 | .undefinedCB | .undefinedD9 | .undefinedDD | .undefinedED | .undefinedFD =>
    { s := false, z := false, ac := false, p := false, cy := false }

/-- The address an operand that is written stores to: HL for M, none for a register. -/
def operandStores (s : State) (dst : Reg8) : List Addr := if dst = .m then [s.hl] else []

/-- The two addresses a push stores to (20_memory.md R73). -/
def pushStores (s : State) : List Addr := [s.sp - 1, s.sp - 2]

/-- The addresses an instruction may store to in this state (20_memory.md R60, column "writes"). -/
def storeAddresses (i : Instr) (s : State) : List Addr :=
  match i with
  | .mov dst _ | .mvi dst _ | .inr dst | .dcr dst => operandStores s dst
  | .stax x => [s.indexPair x]
  | .sta addr16 => [addr16]
  | .shld addr16 => [addr16, addr16 + 1]
  | .xthl => [s.sp, s.sp + 1]
  | .push _ | .pushPsw | .call _ | .rst _ => pushStores s
  | .cc _ => if condHolds .c s.flags then pushStores s else []
  | .cnc _ => if condHolds .nc s.flags then pushStores s else []
  | .cz _ => if condHolds .z s.flags then pushStores s else []
  | .cnz _ => if condHolds .nz s.flags then pushStores s else []
  | .cm _ => if condHolds .m s.flags then pushStores s else []
  | .cp _ => if condHolds .p s.flags then pushStores s else []
  | .cpe _ => if condHolds .pe s.flags then pushStores s else []
  | .cpo _ => if condHolds .po s.flags then pushStores s else []
  | .undefinedDD | .undefinedED | .undefinedFD => if s.plat.undocAliases then pushStores s else []
  | .inPort _ | .outPort _ | .ei | .di | .hlt | .cmc | .stc | .nop | .cma | .daa | .pop _ | .popPsw | .dad _
  | .inx _ | .dcx _ | .xchg | .sphl | .rlc | .rrc | .ral | .rar | .ldax _ | .add _ | .adc _ | .sub _ | .sbb _
  | .ana _ | .xra _ | .ora _ | .cmp _ | .lda _ | .lhld _ | .lxi _ _ | .adi _ | .aci _ | .sui _ | .sbi _ | .ani _
  | .xri _ | .ori _ | .cpi _ | .pchl | .jmp _ | .jc _ | .jnc _ | .jz _ | .jnz _ | .jm _ | .jp _ | .jpe _
  | .jpo _ | .ret | .rc | .rnc | .rz | .rnz | .rm | .rp | .rpe | .rpo | .undefined08 | .undefined10
  | .undefined18 | .undefined20 | .undefined28 | .undefined30 | .undefined38 | .undefinedCB | .undefinedD9 => []

/-- Is an instruction one of the twelve undefined bytes (30_encoding.md R95). -/
def isUndefined : Instr → Bool
  | .undefined08 | .undefined10 | .undefined18 | .undefined20 | .undefined28 | .undefined30 | .undefined38
  | .undefinedCB | .undefinedD9 | .undefinedDD | .undefinedED | .undefinedFD => true
  | .inPort _ | .outPort _ | .ei | .di | .hlt | .rst _ | .cmc | .stc | .nop | .inr _ | .dcr _ | .cma | .daa
  | .push _ | .pushPsw | .pop _ | .popPsw | .dad _ | .inx _ | .dcx _ | .xchg | .xthl | .sphl | .rlc | .rrc
  | .ral | .rar | .mov _ _ | .stax _ | .ldax _ | .add _ | .adc _ | .sub _ | .sbb _ | .ana _ | .xra _ | .ora _
  | .cmp _ | .sta _ | .lda _ | .shld _ | .lhld _ | .lxi _ _ | .mvi _ _ | .adi _ | .aci _ | .sui _ | .sbi _
  | .ani _ | .xri _ | .ori _ | .cpi _ | .pchl | .jmp _ | .jc _ | .jnc _ | .jz _ | .jnz _ | .jm _ | .jp _
  | .jpe _ | .jpo _ | .call _ | .cc _ | .cnc _ | .cz _ | .cnz _ | .cm _ | .cp _ | .cpe _ | .cpo _ | .ret | .rc
  | .rnc | .rz | .rnz | .rm | .rp | .rpe | .rpo => false

/-- May an instruction that completes set PC to something else than the next sequential address (48_branching.md,
40_command.md R115; for the undefined bytes the aliases of 30_encoding.md R96). -/
def branches : Instr → Bool
  | .pchl | .jmp _ | .jc _ | .jnc _ | .jz _ | .jnz _ | .jm _ | .jp _ | .jpe _ | .jpo _ => true
  | .call _ | .cc _ | .cnc _ | .cz _ | .cnz _ | .cm _ | .cp _ | .cpe _ | .cpo _ => true
  | .ret | .rc | .rnc | .rz | .rnz | .rm | .rp | .rpe | .rpo | .rst _ => true
  | .undefinedCB | .undefinedD9 | .undefinedDD | .undefinedED | .undefinedFD => true
  | .inPort _ | .outPort _ | .ei | .di | .hlt | .cmc | .stc | .nop | .inr _ | .dcr _ | .cma | .daa | .push _
  | .pushPsw | .pop _ | .popPsw | .dad _ | .inx _ | .dcx _ | .xchg | .xthl | .sphl | .rlc | .rrc | .ral | .rar
  | .mov _ _ | .stax _ | .ldax _ | .add _ | .adc _ | .sub _ | .sbb _ | .ana _ | .xra _ | .ora _ | .cmp _
  | .sta _ | .lda _ | .shld _ | .lhld _ | .lxi _ _ | .mvi _ _ | .adi _ | .aci _ | .sui _ | .sbi _ | .ani _
  | .xri _ | .ori _ | .cpi _ | .undefined08 | .undefined10 | .undefined18 | .undefined20 | .undefined28
  | .undefined30 | .undefined38 => false

/-! ### The terms of the statements about instructions -/

/-- How many bits of a byte are 1. -/
def onesIn (v : Byte) : Nat := ((List.range 8).filter fun i => v.getLsbD i).length

/-- S, Z and P tell of a result byte (10_state.md R31). -/
def ResultFlags (res : Byte) (f : Flags) : Prop :=
  f.s = res.getLsbD 7 ∧ f.z = decide (res = 0) ∧ f.p = decide (onesIn res % 2 = 0)

/-- A result and five flags are those of an 8-bit addition (10_state.md R35). -/
def IsSum (a b : Byte) (cin : Bool) (res : Byte) (f : Flags) : Prop :=
  res.toNat = (a.toNat + b.toNat + cin.toNat) % 256 ∧
  f.cy = decide (a.toNat + b.toNat + cin.toNat > 255) ∧
  f.ac = decide (a.toNat % 16 + b.toNat % 16 + cin.toNat > 15) ∧
  ResultFlags res f

/-- A result and five flags are those of an 8-bit subtraction (10_state.md R36): CY is the borrow, AC the carry out of bit 3
of the addition of the one's complement. -/
def IsDifference (a b : Byte) (bin : Bool) (res : Byte) (f : Flags) : Prop :=
  res.toNat = (a.toNat + 256 - (b.toNat + bin.toNat)) % 256 ∧
  f.cy = decide (a.toNat < b.toNat + bin.toNat) ∧
  f.ac = decide (a.toNat % 16 + (255 - b.toNat) % 16 + (1 - bin.toNat) > 15) ∧
  ResultFlags res f

/-- A result and five flags are those of a logical operation: S, Z, P of the result, CY clear, AC as given
(45_register_memory_to_accumulator.md R184 to R186). -/
def IsLogical (value res : Byte) (ac : Bool) (f : Flags) : Prop :=
  res = value ∧ f.cy = false ∧ f.ac = ac ∧ ResultFlags res f

/-- An instruction of n bytes that goes on in sequence: PC moves past it, SP stays, and of the 8-bit registers, memory and
control state only the listed registers and addresses may change. The flags are spoken of apart. -/
def InSequence (s t : State) (n : Addr) (written : List Reg8) (stores : List Addr) : Prop :=
  t.pc = s.pc + n ∧ t.sp = s.sp ∧ KeepsRegisters s t written ∧ KeepsMemory s t stores ∧ KeepsControl s t

/-- An operand receives a value: a register holds it, or for M the byte at HL is stored (10_state.md R23). -/
def Receives (s t : State) (dst : Reg8) (v : Byte) : Prop :=
  if dst = .m then StoredAt s t s.hl v else t.operand dst = v

/-- A pair receives a value in an instruction of n bytes, and nothing else changes: no flag, no memory, and SP only where it
is the pair. -/
def PairReceives (s t : State) (n : Addr) (rp : Pair) (w : Addr) : Prop :=
  t.pair rp = w ∧ (rp ≠ .sp → t.sp = s.sp) ∧ t.pc = s.pc + n ∧ t.flags = s.flags ∧
    KeepsRegisters s t (pairRegisters rp) ∧ KeepsMemory s t [] ∧ KeepsControl s t

/-- A jump: only PC changes. -/
def JumpsTo (s t : State) (target : Addr) : Prop :=
  t.pc = target ∧ t.sp = s.sp ∧ t.flags = s.flags ∧ KeepsRegisters s t [] ∧ KeepsMemory s t [] ∧ KeepsControl s t

/-- `push16(w)` (20_memory.md R73): the high byte at SP - 1, the low byte at SP - 2, SP down by 2, no other byte changed. -/
def Pushes (s t : State) (w : Addr) : Prop :=
  t.sp = s.sp - 2 ∧ StoredAt s t (s.sp - 1) (hiByte w) ∧ StoredAt s t (s.sp - 2) (loByte w) ∧
    KeepsMemory s t [s.sp - 1, s.sp - 2]

/-- A call (48_branching.md R240): the return address is pushed, PC is the target, nothing else changes. -/
def CallsTo (s t : State) (returnAddress target : Addr) : Prop :=
  Pushes s t returnAddress ∧ t.pc = target ∧ t.flags = s.flags ∧ KeepsRegisters s t [] ∧ KeepsControl s t

/-- A return (48_branching.md R250): PC is popped, memory is only read, nothing else changes. -/
def ReturnsFrom (s t : State) : Prop :=
  t.pc = s.peek16 s.sp ∧ t.sp = s.sp + 2 ∧ t.flags = s.flags ∧ KeepsRegisters s t [] ∧ KeepsMemory s t [] ∧
    KeepsControl s t

/-- An instruction with these bytes jumps to the target when the condition holds and otherwise goes on after its 3 bytes. -/
def JumpsWhen (s : State) (bytes : List Byte) (i : Instr) (target : Addr) (holds : Bool) : Prop :=
  DecodesTo bytes i ∧ ∃ t, exec i s = .next t ∧ JumpsTo s t (if holds then target else s.pc + 3)

/-- An instruction with these bytes calls the target when the condition holds and otherwise goes on after its 3 bytes. -/
def CallsWhen (s : State) (bytes : List Byte) (i : Instr) (target : Addr) (holds : Bool) : Prop :=
  DecodesTo bytes i ∧ ∃ t, exec i s = .next t ∧
    if holds then CallsTo s t (s.pc + 3) target else JumpsTo s t (s.pc + 3)

/-- An instruction with these bytes returns when the condition holds and otherwise goes on after its 1 byte. -/
def ReturnsWhen (s : State) (bytes : List Byte) (i : Instr) (holds : Bool) : Prop :=
  DecodesTo bytes i ∧ ∃ t, exec i s = .next t ∧ if holds then ReturnsFrom s t else JumpsTo s t (s.pc + 1)

/-- The byte of two decimal digits that packed binary-coded decimal writes a number below 100 as. -/
def packedDecimal (n : Nat) : Byte := BitVec.ofNat 8 (16 * (n / 10) + n % 10)

/-- The usual two-step description of DAA (41_single_register.md R133): A and CY after it, a carry out of the first step
counting as CY before the second. -/
def decimalAdjustInTwoSteps (a : Byte) (ac cy : Bool) : Nat × Bool :=
  let a1 := if a.toNat % 16 > 9 ∨ ac = true then a.toNat + 6 else a.toNat
  let cy1 := cy || decide (a1 > 255)
  let a2 := a1 % 256
  if a2 / 16 > 9 ∨ cy1 = true then ((a2 + 0x60) % 256, true) else (a2, cy1)

/-- The conditional instructions of each condition (10_state.md R32): the jump, the call and the return. -/
def conditionalRows (target : Addr) : List (Cond × Instr × Instr × Instr) :=
  [(.nz, .jnz target, .cnz target, .rnz), (.z, .jz target, .cz target, .rz), (.nc, .jnc target, .cnc target, .rnc),
   (.c, .jc target, .cc target, .rc), (.po, .jpo target, .cpo target, .rpo), (.pe, .jpe target, .cpe target, .rpe),
   (.p, .jp target, .cp target, .rp), (.m, .jm target, .cm target, .rm)]

/-- An instruction executed n times in a row, each time from the state the last left. -/
def execTimes (i : Instr) : Nat → State → Result
  | 0, s => .next s
  | n + 1, s =>
    match exec i s with
    | .next t => execTimes i n t
    | stop => stop

/-- The twelve undefined opcode bytes with their instructions. -/
def undefinedRows : List (Byte × Instr) :=
  [(0x08, .undefined08), (0x10, .undefined10), (0x18, .undefined18), (0x20, .undefined20), (0x28, .undefined28),
   (0x30, .undefined30), (0x38, .undefined38), (0xCB, .undefinedCB), (0xD9, .undefinedD9), (0xDD, .undefinedDD),
   (0xED, .undefinedED), (0xFD, .undefinedFD)]

/-! ### Transformations the noninterference statements compare by -/

/-- The state with AC given another value. -/
def State.withAc (s : State) (v : Bool) : State := s.setFlags { s.flags with ac := v }

end Sys2Proof.Machine
end

