-- ==== Sys2Proof/Certificates/Slice0/Obligations.lean ====
section
/-! DEFINITION. The statements about the machine, for the provers. Each docstring names the rules of spec/ it formalises. -/

section Statements

open Sys2Proof Sys2Proof.Machine

/-! ### Helpers of the flags (10_state.md) -/

/-- R33: `parity_even(v)` is 1 when the exclusive OR of the eight bits is 0, which is when an even number of them are 1. -/
def Obligations.ParityIsEvenCountOfOnes : Prop :=
  ∀ v : Byte,
    (parityEven v = true ↔
      (v.getLsbD 0 ^^ v.getLsbD 1 ^^ v.getLsbD 2 ^^ v.getLsbD 3 ^^ v.getLsbD 4 ^^ v.getLsbD 5 ^^ v.getLsbD 6 ^^ v.getLsbD 7) = false) ∧
    (parityEven v = true ↔ onesIn v % 2 = 0)

/-- R35: `add8` is the sum modulo 256 with the carries out of bit 7 and of bit 3. -/
def Obligations.AdditionSetsFlagsExactly : Prop :=
  ∀ (a b : Byte) (cin : Bool), IsSum a b cin (add8 a b cin).value (add8 a b cin).flags

/-- R36: `sub8` is the difference modulo 256; CY is a true borrow, AC the carry out of bit 3 of the internal addition, which is
the absence of a half-borrow. -/
def Obligations.SubtractionSetsFlagsExactly : Prop :=
  (∀ (a b : Byte) (bin : Bool),
    IsDifference a b bin (sub8 a b bin).value (sub8 a b bin).flags ∧
    ((sub8 a b bin).flags.ac = false ↔ a.toNat % 16 < b.toNat % 16 + bin.toNat)) ∧
  ∀ x : Byte,
    (sub8 x x false).value = 0 ∧
      (sub8 x x false).flags = { s := false, z := true, ac := true, p := true, cy := false }

/-- R37, R38: the layout of the flag byte, what POP PSW takes from a byte, and that bits 5, 3 and 1 are not stored. -/
def Obligations.FlagByteHoldsFiveFlags : Prop :=
  ∀ (f : Flags) (v : Byte),
    ((flagsByte f).toNat = 128 * f.s.toNat + 64 * f.z.toNat + 16 * f.ac.toNat + 4 * f.p.toNat + 2 + f.cy.toNat) ∧
    ((flagsByte f).getLsbD 7 = f.s ∧ (flagsByte f).getLsbD 6 = f.z ∧ (flagsByte f).getLsbD 5 = false ∧
      (flagsByte f).getLsbD 4 = f.ac ∧ (flagsByte f).getLsbD 3 = false ∧ (flagsByte f).getLsbD 2 = f.p ∧
      (flagsByte f).getLsbD 1 = true ∧ (flagsByte f).getLsbD 0 = f.cy) ∧
    ((flagsOfByte v).s = v.getLsbD 7 ∧ (flagsOfByte v).z = v.getLsbD 6 ∧ (flagsOfByte v).ac = v.getLsbD 4 ∧
      (flagsOfByte v).p = v.getLsbD 2 ∧ (flagsOfByte v).cy = v.getLsbD 0) ∧
    flagsOfByte (flagsByte f) = f ∧
    flagsByte (flagsOfByte v) = (v &&& 0xD5) ||| 0x02

/-- R32: the flag each condition tests, the opcodes of the 24 conditional instructions, and that each of them jumps, calls or
returns exactly when its condition holds. -/
def Obligations.ConditionsTestTheirFlags : Prop :=
  ∀ (f : Flags) (x y : Byte),
    (condHolds .nz f = !f.z ∧ condHolds .z f = f.z ∧ condHolds .nc f = !f.cy ∧ condHolds .c f = f.cy ∧
      condHolds .po f = !f.p ∧ condHolds .pe f = f.p ∧ condHolds .p f = !f.s ∧ condHolds .m f = f.s) ∧
    (decodeBytes 0xC2 x y = .jnz (joinBytes y x) ∧ decodeBytes 0xC4 x y = .cnz (joinBytes y x) ∧
      decodeBytes 0xC0 x y = .rnz ∧
      decodeBytes 0xCA x y = .jz (joinBytes y x) ∧ decodeBytes 0xCC x y = .cz (joinBytes y x) ∧
      decodeBytes 0xC8 x y = .rz ∧
      decodeBytes 0xD2 x y = .jnc (joinBytes y x) ∧ decodeBytes 0xD4 x y = .cnc (joinBytes y x) ∧
      decodeBytes 0xD0 x y = .rnc ∧
      decodeBytes 0xDA x y = .jc (joinBytes y x) ∧ decodeBytes 0xDC x y = .cc (joinBytes y x) ∧
      decodeBytes 0xD8 x y = .rc ∧
      decodeBytes 0xE2 x y = .jpo (joinBytes y x) ∧ decodeBytes 0xE4 x y = .cpo (joinBytes y x) ∧
      decodeBytes 0xE0 x y = .rpo ∧
      decodeBytes 0xEA x y = .jpe (joinBytes y x) ∧ decodeBytes 0xEC x y = .cpe (joinBytes y x) ∧
      decodeBytes 0xE8 x y = .rpe ∧
      decodeBytes 0xF2 x y = .jp (joinBytes y x) ∧ decodeBytes 0xF4 x y = .cp (joinBytes y x) ∧
      decodeBytes 0xF0 x y = .rp ∧
      decodeBytes 0xFA x y = .jm (joinBytes y x) ∧ decodeBytes 0xFC x y = .cm (joinBytes y x) ∧
      decodeBytes 0xF8 x y = .rm) ∧
    ∀ (s : State) (target : Addr), ∀ row ∈ conditionalRows target,
      (∃ t, exec row.2.1 s = .next t ∧ JumpsTo s t (if condHolds row.1 s.flags then target else s.pc + 3)) ∧
      (∃ t, exec row.2.2.1 s = .next t ∧
        if condHolds row.1 s.flags then CallsTo s t (s.pc + 3) target else JumpsTo s t (s.pc + 3)) ∧
      (∃ t, exec row.2.2.2 s = .next t ∧
        if condHolds row.1 s.flags then ReturnsFrom s t else JumpsTo s t (s.pc + 1))

/-! ### Operands, memory, stack -/

/-- R22, R23, R24, R25: what each 3-bit and each 2-bit operand code reads and writes, the address of M being the HL that the
instruction begins with; the pairs alias their registers. R26, R37, R38: the pairs of PUSH and POP; PSW is `A :: flags_byte()`;
writing it loads A and the five flags, and of the flag byte's bits 5, 3 and 1 nothing is stored. -/
def Obligations.OperandsFollowTheirCodes : Prop :=
  ∀ (s : State) (v : Byte) (w : Addr),
    (s.operand (Reg8.ofCode 0) = s.b ∧ s.operand (Reg8.ofCode 1) = s.c ∧ s.operand (Reg8.ofCode 2) = s.d ∧
      s.operand (Reg8.ofCode 3) = s.e ∧ s.operand (Reg8.ofCode 4) = s.h ∧ s.operand (Reg8.ofCode 5) = s.l ∧
      s.operand (Reg8.ofCode 7) = s.a ∧ s.operand (Reg8.ofCode 6) = s.peek (joinBytes s.h s.l)) ∧
    (s.setOperand (Reg8.ofCode 0) v = { s with b := v } ∧ s.setOperand (Reg8.ofCode 1) v = { s with c := v } ∧
      s.setOperand (Reg8.ofCode 2) v = { s with d := v } ∧ s.setOperand (Reg8.ofCode 3) v = { s with e := v } ∧
      s.setOperand (Reg8.ofCode 4) v = { s with h := v } ∧ s.setOperand (Reg8.ofCode 5) v = { s with l := v } ∧
      s.setOperand (Reg8.ofCode 7) v = { s with a := v } ∧
      s.setOperand (Reg8.ofCode 6) v = s.store (joinBytes s.h s.l) v) ∧
    ((s.pair (Pair.ofCode 0)).toNat = 256 * s.b.toNat + s.c.toNat ∧
      (s.pair (Pair.ofCode 1)).toNat = 256 * s.d.toNat + s.e.toNat ∧
      (s.pair (Pair.ofCode 2)).toNat = 256 * s.h.toNat + s.l.toNat ∧ s.pair (Pair.ofCode 3) = s.sp) ∧
    (s.setPair (Pair.ofCode 0) w = { s with b := hiByte w, c := loByte w } ∧
      s.setPair (Pair.ofCode 1) w = { s with d := hiByte w, e := loByte w } ∧
      s.setPair (Pair.ofCode 2) w = { s with h := hiByte w, l := loByte w } ∧
      s.setPair (Pair.ofCode 3) w = { s with sp := w }) ∧
    ((hiByte w).toNat = w.toNat / 256 ∧ (loByte w).toNat = w.toNat % 256) ∧
    ((∃ t, exec (.mov .h .m) s = .next t ∧ t.h = s.peek (joinBytes s.h s.l)) ∧
      ∃ t, exec (.mov .l .m) s = .next t ∧ t.l = s.peek (joinBytes s.h s.l)) ∧
    (StackPair.b.code = 0 ∧ s.stackPair .b = s.pair (Pair.ofCode 0) ∧ s.setStackPair .b w = s.setPair (Pair.ofCode 0) w ∧
      StackPair.d.code = 1 ∧ s.stackPair .d = s.pair (Pair.ofCode 1) ∧ s.setStackPair .d w = s.setPair (Pair.ofCode 1) w ∧
      StackPair.h.code = 2 ∧ s.stackPair .h = s.pair (Pair.ofCode 2) ∧ s.setStackPair .h w = s.setPair (Pair.ofCode 2) w ∧
      DecodesTo [0b11110101] .pushPsw ∧ DecodesTo [0b11110001] .popPsw) ∧
    (s.psw.toNat = 256 * s.a.toNat +
        (128 * s.flags.s.toNat + 64 * s.flags.z.toNat + 16 * s.flags.ac.toNat + 4 * s.flags.p.toNat + 2 + s.flags.cy.toNat) ∧
      s.psw.getLsbD 5 = false ∧ s.psw.getLsbD 3 = false ∧ s.psw.getLsbD 1 = true) ∧
    (s.setPsw w =
        { s with a := hiByte w,
                 flags := { s := w.getLsbD 7, z := w.getLsbD 6, ac := w.getLsbD 4, p := w.getLsbD 2, cy := w.getLsbD 0 } } ∧
      (s.setPsw w).psw = joinBytes (hiByte w) ((loByte w &&& 0xD5) ||| 0x02))

/-- R52, R53: a read answers the stored byte, or a draw where nothing is fitted, and changes nothing the spec holds; a write
changes the one byte where there is RAM and nothing where there is not. The clause for addresses where nothing is fitted (the
draw is the free value of the counter `env.draws`, which the read moves by one) is the model's choice, log entry 4. -/
def Obligations.ByteAccessesFollowTheMemoryKind : Prop :=
  ∀ (s : State) (addr : Addr) (v : Byte),
    (s.memKind addr ≠ .none → s.peek addr = s.stored addr ∧ s.touch addr = s) ∧
    (s.memKind addr = .none →
      s.peek addr = Config.floatingByte s.env.draws ∧
        s.touch addr = { s with env := { s.env with draws := s.env.draws + 1 } }) ∧
    (s.memKind addr = .ram → (s.store addr v).stored addr = v ∧ (s.store addr v).peek addr = v) ∧
    (s.memKind addr ≠ .ram → s.store addr v = s) ∧
    (∀ x, x ≠ addr → (s.store addr v).stored x = s.stored x) ∧
    s.store addr v = { s with mem := (s.store addr v).mem }

/-- R58: a 16-bit access is two byte accesses, low-order byte at the address, high-order byte at the next one modulo 65536. -/
def Obligations.WordAccessesAreTwoBytes : Prop :=
  ∀ (s : State) (addr w : Addr),
    (addr + 1).toNat = (addr.toNat + 1) % 65536 ∧
    (s.memKind addr ≠ .none → s.memKind (addr + 1) ≠ .none →
      (s.peek16 addr).toNat = 256 * (s.stored (addr + 1)).toNat + (s.stored addr).toNat ∧ s.touch16 addr = s) ∧
    (loByte (s.peek16 addr) = s.peek addr ∧ hiByte (s.peek16 addr) = (s.touch addr).peek (addr + 1) ∧
      s.touch16 addr = (s.touch addr).touch (addr + 1)) ∧
    s.store16 addr w = (s.store addr (loByte w)).store (addr + 1) (hiByte w) ∧
    (s.memKind addr = .ram → s.memKind (addr + 1) = .ram → (s.store16 addr w).peek16 addr = w)

/-- R73, R74: push and pop, with the wrap of SP, and that a pop after a push gives back the word and SP. -/
def Obligations.PushAndPopAreInverse : Prop :=
  ∀ (s : State) (w : Addr),
    Pushes s (s.push16 w) w ∧
    s.push16 w = { s with mem := (s.push16 w).mem, sp := s.sp - 2 } ∧
    ((s.sp - 1).toNat = (s.sp.toNat + 65535) % 65536 ∧ (s.sp - 2).toNat = (s.sp.toNat + 65534) % 65536 ∧
      (s.sp + 2).toNat = (s.sp.toNat + 2) % 65536) ∧
    (s.popped.sp = s.sp + 2 ∧ s.popped.mem = s.mem ∧
      s.popped = { s with sp := s.sp + 2, env := s.popped.env } ∧
      s.peek16 s.sp = joinBytes ((s.touch s.sp).peek (s.sp + 1)) (s.peek s.sp)) ∧
    (s.memKind (s.sp - 1) = .ram → s.memKind (s.sp - 2) = .ram →
      (s.push16 w).peek (s.push16 w).sp = loByte w ∧ (s.push16 w).peek ((s.push16 w).sp + 1) = hiByte w ∧
        (s.push16 w).peek16 (s.push16 w).sp = w ∧ (s.push16 w).popped.sp = s.sp ∧
        (s.push16 w).popped.mem = (s.push16 w).mem)

/-! ### Encoding (30_encoding.md) -/

/-- Every well-formed instruction, whatever bytes follow it, decodes from its encoding (R103). -/
def Obligations.DecodeOfEncode : Prop :=
  ∀ (i : Instr) (rest : List Byte), i.wf = true → decode (encode i ++ rest) = .ok (i, rest)

/-- What decodes is well formed and is the encoding of what it decodes to, so no two encodings share an instruction (R103). -/
def Obligations.EncodeOfDecode : Prop :=
  ∀ (bytes rest : List Byte) (i : Instr), decode bytes = .ok (i, rest) → i.wf = true ∧ encode i ++ rest = bytes

/-- Words written out from the Binary Code column decode to their instructions: one at least of each format of R82 to R86. The
last word, 0xCB, is in no row of that column: it is one of the bytes of R95, and that the decoder takes it for one byte is the
model's choice (log entry 12). -/
def Obligations.SampleWordsDecode : Prop :=
  DecodesTo [0b00000000] .nop ∧ DecodesTo [0b01110110] .hlt ∧ DecodesTo [0b11101111] (.rst 5) ∧
  DecodesTo [0b11011011, 0x10] (.inPort 0x10) ∧ DecodesTo [0b00110100] (.inr .m) ∧
  DecodesTo [0b00100111] .daa ∧ DecodesTo [0b11010101] (.push .d) ∧ DecodesTo [0b11110101] .pushPsw ∧
  DecodesTo [0b00111001] (.dad .sp) ∧ DecodesTo [0b00011111] .rar ∧ DecodesTo [0b01001110] (.mov .c .m) ∧
  DecodesTo [0b00010010] (.stax .d) ∧ DecodesTo [0b10011101] (.sbb .l) ∧
  DecodesTo [0b00110010, 0xB3, 0x05] (.sta 0x05B3) ∧ DecodesTo [0b00100001, 0x03, 0x01] (.lxi .h 0x0103) ∧
  DecodesTo [0b00110110, 0xFF] (.mvi .m 0xFF) ∧ DecodesTo [0b11111110, 0x40] (.cpi 0x40) ∧
  DecodesTo [0b11000011, 0x00, 0x3E] (.jmp 0x3E00) ∧ DecodesTo [0b11011100, 0x00, 0x30] (.cc 0x3000) ∧
  DecodesTo [0b11110000] .rp ∧ DecodesTo [0b11001011] .undefinedCB

/-- R81: the length of every defined opcode, and how many defined opcodes there are of each length. The last clause, that the
decoder takes each of the twelve undefined bytes for one byte, is the model's choice (log entry 12): what length R96 gives
their aliases is in `Obligations.UndocumentedAliases`. -/
def Obligations.OpcodeLengthsMatchTheTable : Prop :=
  (∀ op : Byte, isUndefined (decodeBytes op 0 0) = false →
    (opcodeLength op = 3 ↔
      op ∈ ([0x01, 0x11, 0x21, 0x31, 0x22, 0x2A, 0x32, 0x3A, 0xC3, 0xC2, 0xCA, 0xD2, 0xDA, 0xE2, 0xEA, 0xF2, 0xFA,
        0xCD, 0xC4, 0xCC, 0xD4, 0xDC, 0xE4, 0xEC, 0xF4, 0xFC] : List Byte)) ∧
    (opcodeLength op = 2 ↔
      op ∈ ([0x06, 0x0E, 0x16, 0x1E, 0x26, 0x2E, 0x36, 0x3E, 0xC6, 0xCE, 0xD6, 0xDE, 0xE6, 0xEE, 0xF6, 0xFE, 0xD3,
        0xDB] : List Byte)) ∧
    (opcodeLength op = 1 ∨ opcodeLength op = 2 ∨ opcodeLength op = 3)) ∧
  (let defined := ((List.range 256).map fun n => BitVec.ofNat 8 n).filter fun op => !isUndefined (decodeBytes op 0 0)
   defined.length = 244 ∧ (defined.filter fun op => opcodeLength op == 3).length = 26 ∧
    (defined.filter fun op => opcodeLength op == 2).length = 18 ∧
    (defined.filter fun op => opcodeLength op == 1).length = 200) ∧
  (∀ row ∈ undefinedRows, opcodeLength row.1 = 1)

/-- R95: the undefined opcode bytes are exactly the twelve, whatever bytes follow. -/
def Obligations.UndefinedBytesAreTwelve : Prop :=
  ∀ op byte2 byte3 : Byte,
    isUndefined (decodeBytes op byte2 byte3) = true ↔
      op ∈ ([0x08, 0x10, 0x18, 0x20, 0x28, 0x30, 0x38, 0xCB, 0xD9, 0xDD, 0xED, 0xFD] : List Byte)

/-! ### Command instructions (40_command.md) -/

/-- R110, R111: IN loads A with the environment's answer, OUT gives A out; each appends its event to IoTrace. Where the answer
comes from (the next byte of `env.inputs`, which is used up, and the free value `Config.ioRead` where there is none) is the
model's choice, log entry 5. -/
def Obligations.InAndOut : Prop :=
  ∀ (port : Byte) (s : State),
    DecodesTo [0xDB, port] (.inPort port) ∧ DecodesTo [0xD3, port] (.outPort port) ∧
    (∃ t, exec (.inPort port) s = .next t ∧ t.ioTrace = s.ioTrace ++ [.input port t.a] ∧
      (s.env.inputs = [] → t.a = Config.ioRead s.ioTrace port) ∧
      (∀ v vs, s.env.inputs = v :: vs → t.a = v ∧ t.env.inputs = vs) ∧
      t.pc = s.pc + 2 ∧ t.sp = s.sp ∧ t.flags = s.flags ∧ KeepsRegisters s t [.a] ∧ t.mem = s.mem ∧
      t.inte = s.inte ∧ t.halted = s.halted ∧ t.fault = s.fault ∧ t.plat = s.plat ∧ t.eiShadow = false) ∧
    (∃ t, exec (.outPort port) s = .next t ∧ t.ioTrace = s.ioTrace ++ [.output port s.a] ∧
      t.pc = s.pc + 2 ∧ t.sp = s.sp ∧ t.flags = s.flags ∧ KeepsRegisters s t [] ∧ t.mem = s.mem ∧
      t.inte = s.inte ∧ t.halted = s.halted ∧ t.fault = s.fault ∧ t.plat = s.plat ∧ t.eiShadow = false)

/-- R112, R113: EI sets INTE and holds interrupts off for one instruction; DI clears INTE at once. -/
def Obligations.EnableAndDisableInterrupts : Prop :=
  ∀ s : State,
    DecodesTo [0xFB] .ei ∧ DecodesTo [0xF3] .di ∧
    exec .ei s = .next { s with pc := s.pc + 1, inte := true, eiShadow := true } ∧
    exec .di s = .next { s with pc := s.pc + 1, inte := false, eiShadow := false } ∧
    (∀ t, exec .ei s = .next t ∨ exec .di s = .next t → t.acceptable = none)

/-- R114: HLT sets HALTED past itself; a halted machine fetches nothing; it leaves the halt by an interrupt, which pushes the
address after the HLT, or by reset, and in no other way. `env` is the model's own record of the environment (log entry 13). -/
def Obligations.HaltWaitsForInterruptOrReset : Prop :=
  ∀ s : State,
    DecodesTo [0x76] .hlt ∧
    exec .hlt s = .next { s with pc := s.pc + 1, halted := true, eiShadow := false } ∧
    (s.fault = none → s.halted = true → s.boundary.reset = false → s.acceptable = none →
      step s = .next { s with env := s.passBoundary.env }) ∧
    (s.fault = none → s.halted = true → s.inte = false → s.boundary.reset = false →
      step s = .next { s with env := s.passBoundary.env }) ∧
    (∀ n, s.fault = none → s.halted = true → s.boundary.reset = false → s.acceptable = some n →
      ∃ t, step s = .next t ∧ t.halted = false ∧ t.pc.toNat = 8 * n.toNat ∧ Pushes s t s.pc) ∧
    (s.fault = none → s.halted = true → s.boundary.reset = true →
      ∃ t, step s = .next t ∧ t.halted = false ∧ t.pc = 0x0000) ∧
    (∀ t, s.halted = true → step s = .next t → t.halted = false →
      s.boundary.reset = true ∨ (s.inte = true ∧ s.eiShadow = false ∧ s.boundary.request ≠ none))

/-- R115: RST is a one-byte call to 8 * exp; INTE is not changed. -/
def Obligations.RestartCallsEightTimesNumber : Prop :=
  ∀ (exp : BitVec 3) (s : State),
    DecodesTo [0b11#2 ++ exp ++ 0b111#3] (.rst exp) ∧
    ∃ t, exec (.rst exp) s = .next t ∧ CallsTo s t (s.pc + 1) t.pc ∧ t.pc.toNat = 8 * exp.toNat

/-- R116, R117, R118, R132: CMC and STC write CY alone, CMA writes A alone, NOP nothing. -/
def Obligations.CarryBitComplementAndNop : Prop :=
  ∀ s : State,
    DecodesTo [0x3F] .cmc ∧ DecodesTo [0x37] .stc ∧ DecodesTo [0x00] .nop ∧ DecodesTo [0x2F] .cma ∧
    (∃ t, exec .cmc s = .next t ∧ t.flags = { s.flags with cy := !s.flags.cy } ∧ InSequence s t 1 [] []) ∧
    (∃ t, exec .stc s = .next t ∧ t.flags = { s.flags with cy := true } ∧ InSequence s t 1 [] []) ∧
    (∃ t, exec .nop s = .next t ∧ t.flags = s.flags ∧ InSequence s t 1 [] []) ∧
    (∃ t, exec .cma s = .next t ∧ t.a.toNat = 255 - s.a.toNat ∧ t.flags = s.flags ∧ InSequence s t 1 [.a] [])

/-! ### Single register instructions (41_single_register.md) -/

/-- R130, R131: INR and DCR on each register and on M; CY is kept. -/
def Obligations.IncrementAndDecrement : Prop :=
  ∀ (dst : Reg8) (s : State),
    DecodesTo [0b00#2 ++ dst.code ++ 0b100#3] (.inr dst) ∧ DecodesTo [0b00#2 ++ dst.code ++ 0b101#3] (.dcr dst) ∧
    (∃ t res, exec (.inr dst) s = .next t ∧ res.toNat = ((s.operand dst).toNat + 1) % 256 ∧
      Receives s t dst res ∧ ResultFlags res t.flags ∧ t.flags.cy = s.flags.cy ∧
      t.flags.ac = decide ((s.operand dst).toNat % 16 = 15) ∧ InSequence s t 1 [dst] (operandStores s dst)) ∧
    (∃ t res, exec (.dcr dst) s = .next t ∧ res.toNat = ((s.operand dst).toNat + 255) % 256 ∧
      Receives s t dst res ∧ ResultFlags res t.flags ∧ t.flags.cy = s.flags.cy ∧
      t.flags.ac = decide ((s.operand dst).toNat % 16 ≠ 0) ∧ InSequence s t 1 [dst] (operandStores s dst))

/-- R133: DAA by the two-step description, with its flags; CY is never cleared. -/
def Obligations.DecimalAdjustInTwoSteps : Prop :=
  ∀ s : State,
    DecodesTo [0x27] .daa ∧
    ∃ t, exec .daa s = .next t ∧
      (t.a.toNat, t.flags.cy) = decimalAdjustInTwoSteps s.a s.flags.ac s.flags.cy ∧
      t.flags.ac = decide (s.a.toNat % 16 > 9) ∧
      (s.flags.cy = true → t.flags.cy = true) ∧ ResultFlags t.a t.flags ∧ InSequence s t 1 [.a] []

/-! ### Register pair instructions (42_register_pair.md) -/

/-- R140, R141: PUSH of a pair and of PSW. -/
def Obligations.PushStoresPairOrStatus : Prop :=
  ∀ (rp : StackPair) (s : State),
    DecodesTo [0b11#2 ++ rp.code ++ 0#1 ++ 0b101#3] (.push rp) ∧ DecodesTo [0xF5] .pushPsw ∧
    (∃ t, exec (.push rp) s = .next t ∧ Pushes s t (s.stackPair rp) ∧
      t.pc = s.pc + 1 ∧ t.flags = s.flags ∧ KeepsRegisters s t [] ∧ KeepsControl s t) ∧
    (s.stackPair .b = joinBytes s.b s.c ∧ s.stackPair .d = joinBytes s.d s.e ∧ s.stackPair .h = joinBytes s.h s.l) ∧
    (∃ t, exec .pushPsw s = .next t ∧ Pushes s t (joinBytes s.a (flagsByte s.flags)) ∧
      t.pc = s.pc + 1 ∧ t.flags = s.flags ∧ KeepsRegisters s t [] ∧ KeepsControl s t)

/-- R142, R143: POP of a pair and of PSW. -/
def Obligations.PopLoadsPairOrStatus : Prop :=
  ∀ (rp : StackPair) (s : State),
    DecodesTo [0b11#2 ++ rp.code ++ 0#1 ++ 0b001#3] (.pop rp) ∧ DecodesTo [0xF1] .popPsw ∧
    (∃ t, exec (.pop rp) s = .next t ∧ t.stackPair rp = s.peek16 s.sp ∧ t.sp = s.sp + 2 ∧
      t.pc = s.pc + 1 ∧ t.flags = s.flags ∧ KeepsRegisters s t (stackPairRegisters rp) ∧ KeepsMemory s t [] ∧
      KeepsControl s t) ∧
    (∃ t, exec .popPsw s = .next t ∧ t.a = (s.touch s.sp).peek (s.sp + 1) ∧
      t.flags = { s := (s.peek s.sp).getLsbD 7, z := (s.peek s.sp).getLsbD 6, ac := (s.peek s.sp).getLsbD 4,
                  p := (s.peek s.sp).getLsbD 2, cy := (s.peek s.sp).getLsbD 0 } ∧
      t.sp = s.sp + 2 ∧ t.pc = s.pc + 1 ∧ KeepsRegisters s t [.a] ∧ KeepsMemory s t [] ∧ KeepsControl s t)

/-- R144: DAD adds a pair to HL and writes CY alone. -/
def Obligations.DoubleAddCarriesOutOfBit15 : Prop :=
  ∀ (rp : Pair) (s : State),
    DecodesTo [0b00#2 ++ rp.code ++ 1#1 ++ 0b001#3] (.dad rp) ∧
    ∃ t, exec (.dad rp) s = .next t ∧ t.hl.toNat = (s.hl.toNat + (s.pair rp).toNat) % 65536 ∧
      t.flags = { s.flags with cy := decide (s.hl.toNat + (s.pair rp).toNat > 65535) } ∧
      InSequence s t 1 [.h, .l] []

/-- R145, R146: INX and DCX on each pair, no flag even on wrap. -/
def Obligations.PairIncrementAndDecrement : Prop :=
  ∀ (rp : Pair) (s : State),
    DecodesTo [0b00#2 ++ rp.code ++ 0#1 ++ 0b011#3] (.inx rp) ∧
    DecodesTo [0b00#2 ++ rp.code ++ 1#1 ++ 0b011#3] (.dcx rp) ∧
    (∃ t w, exec (.inx rp) s = .next t ∧ w.toNat = ((s.pair rp).toNat + 1) % 65536 ∧ PairReceives s t 1 rp w) ∧
    (∃ t w, exec (.dcx rp) s = .next t ∧ w.toNat = ((s.pair rp).toNat + 65535) % 65536 ∧ PairReceives s t 1 rp w)

/-- R147, R149: XCHG exchanges DE and HL; SPHL loads SP from HL. -/
def Obligations.ExchangeAndLoadStackPointer : Prop :=
  ∀ s : State,
    DecodesTo [0xEB] .xchg ∧ DecodesTo [0xF9] .sphl ∧
    (∃ t, exec .xchg s = .next t ∧ t.h = s.d ∧ t.d = s.h ∧ t.l = s.e ∧ t.e = s.l ∧ t.flags = s.flags ∧
      InSequence s t 1 [.d, .e, .h, .l] []) ∧
    (∃ t, exec .sphl s = .next t ∧ t.sp = joinBytes s.h s.l ∧ t.flags = s.flags ∧ t.pc = s.pc + 1 ∧
      KeepsRegisters s t [] ∧ KeepsMemory s t [] ∧ KeepsControl s t)

/-- R148: XTHL exchanges HL with the two bytes at SP; where there is no RAM the writes are dropped. -/
def Obligations.ExchangeTopOfStackWithHL : Prop :=
  ∀ s : State,
    DecodesTo [0xE3] .xthl ∧
    ∃ t, exec .xthl s = .next t ∧ t.l = s.peek s.sp ∧ t.h = (s.touch s.sp).peek (s.sp + 1) ∧
      StoredAt s t s.sp s.l ∧ StoredAt s t (s.sp + 1) s.h ∧ t.flags = s.flags ∧
      InSequence s t 1 [.h, .l] [s.sp, s.sp + 1]

/-! ### Rotate accumulator instructions (43_rotate_accumulator.md) -/

/-- R160 to R163: each bit of A and CY after each rotate. -/
def Obligations.RotatesMoveEachBit : Prop :=
  ∀ s : State,
    DecodesTo [0x07] .rlc ∧ DecodesTo [0x0F] .rrc ∧ DecodesTo [0x17] .ral ∧ DecodesTo [0x1F] .rar ∧
    (∃ t, exec .rlc s = .next t ∧ (∀ k < 7, t.a.getLsbD (k + 1) = s.a.getLsbD k) ∧
      t.a.getLsbD 0 = s.a.getLsbD 7 ∧ t.flags = { s.flags with cy := s.a.getLsbD 7 } ∧ InSequence s t 1 [.a] []) ∧
    (∃ t, exec .rrc s = .next t ∧ (∀ k < 7, t.a.getLsbD k = s.a.getLsbD (k + 1)) ∧
      t.a.getLsbD 7 = s.a.getLsbD 0 ∧ t.flags = { s.flags with cy := s.a.getLsbD 0 } ∧ InSequence s t 1 [.a] []) ∧
    (∃ t, exec .ral s = .next t ∧ (∀ k < 7, t.a.getLsbD (k + 1) = s.a.getLsbD k) ∧
      t.a.getLsbD 0 = s.flags.cy ∧ t.flags = { s.flags with cy := s.a.getLsbD 7 } ∧ InSequence s t 1 [.a] []) ∧
    (∃ t, exec .rar s = .next t ∧ (∀ k < 7, t.a.getLsbD k = s.a.getLsbD (k + 1)) ∧
      t.a.getLsbD 7 = s.flags.cy ∧ t.flags = { s.flags with cy := s.a.getLsbD 0 } ∧ InSequence s t 1 [.a] [])

/-! ### Data transfer (44_data_transfer.md) -/

/-- R170: MOV in its three shapes, register to register, from M, to M. -/
def Obligations.MoveCopiesAByte : Prop :=
  ∀ (dst src : Reg8) (s : State), ¬(dst = .m ∧ src = .m) →
    DecodesTo [0b01#2 ++ dst.code ++ src.code] (.mov dst src) ∧
    ∃ t, exec (.mov dst src) s = .next t ∧ Receives s t dst (s.operand src) ∧ t.flags = s.flags ∧
      InSequence s t 1 [dst] (operandStores s dst)

/-- R171, R172: STAX and LDAX through BC and DE. -/
def Obligations.StoreAndLoadThroughPair : Prop :=
  ∀ (x : IndexPair) (s : State),
    DecodesTo [0b000#3 ++ x.code ++ 0b0010#4] (.stax x) ∧ DecodesTo [0b000#3 ++ x.code ++ 0b1010#4] (.ldax x) ∧
    (s.indexPair .b = joinBytes s.b s.c ∧ s.indexPair .d = joinBytes s.d s.e) ∧
    (∃ t, exec (.stax x) s = .next t ∧ StoredAt s t (s.indexPair x) s.a ∧ t.flags = s.flags ∧
      InSequence s t 1 [] [s.indexPair x]) ∧
    (∃ t, exec (.ldax x) s = .next t ∧ t.a = s.peek (s.indexPair x) ∧ t.flags = s.flags ∧ InSequence s t 1 [.a] [])

/-! ### Register or memory to accumulator (45_register_memory_to_accumulator.md) -/

/-- R180, R181: ADD and ADC. -/
def Obligations.AddWithAndWithoutCarry : Prop :=
  ∀ (src : Reg8) (s : State),
    DecodesTo [0b10000#5 ++ src.code] (.add src) ∧ DecodesTo [0b10001#5 ++ src.code] (.adc src) ∧
    (∃ t, exec (.add src) s = .next t ∧ IsSum s.a (s.operand src) false t.a t.flags ∧ InSequence s t 1 [.a] []) ∧
    (∃ t, exec (.adc src) s = .next t ∧ IsSum s.a (s.operand src) s.flags.cy t.a t.flags ∧ InSequence s t 1 [.a] [])

/-- R182, R183, R187: SUB, SBB, and CMP, which has the flags of SUB and does not write A. -/
def Obligations.SubtractAndCompare : Prop :=
  ∀ (src : Reg8) (s : State),
    DecodesTo [0b10010#5 ++ src.code] (.sub src) ∧ DecodesTo [0b10011#5 ++ src.code] (.sbb src) ∧
    DecodesTo [0b10111#5 ++ src.code] (.cmp src) ∧
    (∃ t, exec (.sub src) s = .next t ∧ IsDifference s.a (s.operand src) false t.a t.flags ∧
      InSequence s t 1 [.a] []) ∧
    (∃ t, exec (.sbb src) s = .next t ∧ IsDifference s.a (s.operand src) s.flags.cy t.a t.flags ∧
      InSequence s t 1 [.a] []) ∧
    (∃ t res, exec (.cmp src) s = .next t ∧ IsDifference s.a (s.operand src) false res t.flags ∧
      (t.flags.z = true ↔ s.a = s.operand src) ∧ InSequence s t 1 [] [])

/-- R184, R185, R186: ANA, XRA, ORA. -/
def Obligations.LogicalOperations : Prop :=
  ∀ (src : Reg8) (s : State),
    DecodesTo [0b10100#5 ++ src.code] (.ana src) ∧ DecodesTo [0b10101#5 ++ src.code] (.xra src) ∧
    DecodesTo [0b10110#5 ++ src.code] (.ora src) ∧
    (∃ t, exec (.ana src) s = .next t ∧
      IsLogical (s.a &&& s.operand src) t.a (s.a.getLsbD 3 || (s.operand src).getLsbD 3) t.flags ∧
      InSequence s t 1 [.a] []) ∧
    (∃ t, exec (.xra src) s = .next t ∧ IsLogical (s.a ^^^ s.operand src) t.a false t.flags ∧ InSequence s t 1 [.a] []) ∧
    (∃ t, exec (.ora src) s = .next t ∧ IsLogical (s.a ||| s.operand src) t.a false t.flags ∧ InSequence s t 1 [.a] [])

/-! ### Direct addressing (46_direct_addressing.md) -/

/-- R200, R202: STA stores A, SHLD stores L and then H at the next address modulo 65536. -/
def Obligations.DirectStores : Prop :=
  ∀ (addr16 : Addr) (s : State),
    DecodesTo [0x32, loByte addr16, hiByte addr16] (.sta addr16) ∧
    DecodesTo [0x22, loByte addr16, hiByte addr16] (.shld addr16) ∧
    (∃ t, exec (.sta addr16) s = .next t ∧ StoredAt s t addr16 s.a ∧ t.flags = s.flags ∧
      InSequence s t 3 [] [addr16]) ∧
    (∃ t, exec (.shld addr16) s = .next t ∧ StoredAt s t addr16 s.l ∧ StoredAt s t (addr16 + 1) s.h ∧
      t.flags = s.flags ∧ InSequence s t 3 [] [addr16, addr16 + 1])

/-- R201, R203: LDA loads A, LHLD loads L and H from the two bytes. -/
def Obligations.DirectLoads : Prop :=
  ∀ (addr16 : Addr) (s : State),
    DecodesTo [0x3A, loByte addr16, hiByte addr16] (.lda addr16) ∧
    DecodesTo [0x2A, loByte addr16, hiByte addr16] (.lhld addr16) ∧
    (∃ t, exec (.lda addr16) s = .next t ∧ t.a = s.peek addr16 ∧ t.flags = s.flags ∧ InSequence s t 3 [.a] []) ∧
    (∃ t, exec (.lhld addr16) s = .next t ∧ t.l = s.peek addr16 ∧ t.h = (s.touch addr16).peek (addr16 + 1) ∧
      t.flags = s.flags ∧ InSequence s t 3 [.h, .l] [])

/-! ### Immediate instructions (47_immediate.md) -/

/-- R210, R211: LXI and MVI in every form. -/
def Obligations.ImmediateLoads : Prop :=
  ∀ (rp : Pair) (dst : Reg8) (data16 : Addr) (data8 : Byte) (s : State),
    DecodesTo [0b00#2 ++ rp.code ++ 0#1 ++ 0b001#3, loByte data16, hiByte data16] (.lxi rp data16) ∧
    DecodesTo [0b00#2 ++ dst.code ++ 0b110#3, data8] (.mvi dst data8) ∧
    (∃ t, exec (.lxi rp data16) s = .next t ∧ PairReceives s t 3 rp data16) ∧
    (∃ t, exec (.mvi dst data8) s = .next t ∧ Receives s t dst data8 ∧ t.flags = s.flags ∧
      InSequence s t 2 [dst] (operandStores s dst))

/-- R212, R213: ADI and ACI. -/
def Obligations.AddImmediate : Prop :=
  ∀ (data8 : Byte) (s : State),
    DecodesTo [0xC6, data8] (.adi data8) ∧ DecodesTo [0xCE, data8] (.aci data8) ∧
    (∃ t, exec (.adi data8) s = .next t ∧ IsSum s.a data8 false t.a t.flags ∧ InSequence s t 2 [.a] []) ∧
    (∃ t, exec (.aci data8) s = .next t ∧ IsSum s.a data8 s.flags.cy t.a t.flags ∧ InSequence s t 2 [.a] [])

/-- R214, R215, R219: SUI, SBI, and CPI, which does not write A. -/
def Obligations.SubtractAndCompareImmediate : Prop :=
  ∀ (data8 : Byte) (s : State),
    DecodesTo [0xD6, data8] (.sui data8) ∧ DecodesTo [0xDE, data8] (.sbi data8) ∧ DecodesTo [0xFE, data8] (.cpi data8) ∧
    (∃ t, exec (.sui data8) s = .next t ∧ IsDifference s.a data8 false t.a t.flags ∧ InSequence s t 2 [.a] []) ∧
    (∃ t, exec (.sbi data8) s = .next t ∧ IsDifference s.a data8 s.flags.cy t.a t.flags ∧ InSequence s t 2 [.a] []) ∧
    (∃ t res, exec (.cpi data8) s = .next t ∧ IsDifference s.a data8 false res t.flags ∧
      (t.flags.z = true ↔ s.a = data8) ∧ InSequence s t 2 [] [])

/-- R216, R217, R218: ANI, XRI, ORI. -/
def Obligations.LogicalImmediate : Prop :=
  ∀ (data8 : Byte) (s : State),
    DecodesTo [0xE6, data8] (.ani data8) ∧ DecodesTo [0xEE, data8] (.xri data8) ∧ DecodesTo [0xF6, data8] (.ori data8) ∧
    (∃ t, exec (.ani data8) s = .next t ∧
      IsLogical (s.a &&& data8) t.a (s.a.getLsbD 3 || data8.getLsbD 3) t.flags ∧ InSequence s t 2 [.a] []) ∧
    (∃ t, exec (.xri data8) s = .next t ∧ IsLogical (s.a ^^^ data8) t.a false t.flags ∧ InSequence s t 2 [.a] []) ∧
    (∃ t, exec (.ori data8) s = .next t ∧ IsLogical (s.a ||| data8) t.a false t.flags ∧ InSequence s t 2 [.a] [])

/-! ### Branching instructions (48_branching.md) -/

/-- R230, R231: PCHL and JMP. -/
def Obligations.UnconditionalJumps : Prop :=
  ∀ (addr16 : Addr) (s : State),
    DecodesTo [0xE9] .pchl ∧ DecodesTo [0xC3, loByte addr16, hiByte addr16] (.jmp addr16) ∧
    (∃ t, exec .pchl s = .next t ∧ JumpsTo s t (joinBytes s.h s.l)) ∧
    (∃ t, exec (.jmp addr16) s = .next t ∧ JumpsTo s t addr16)

/-- R232 to R239: the eight conditional jumps. -/
def Obligations.ConditionalJumps : Prop :=
  ∀ (addr16 : Addr) (s : State),
    JumpsWhen s [0xDA, loByte addr16, hiByte addr16] (.jc addr16) addr16 s.flags.cy ∧
    JumpsWhen s [0xD2, loByte addr16, hiByte addr16] (.jnc addr16) addr16 (!s.flags.cy) ∧
    JumpsWhen s [0xCA, loByte addr16, hiByte addr16] (.jz addr16) addr16 s.flags.z ∧
    JumpsWhen s [0xC2, loByte addr16, hiByte addr16] (.jnz addr16) addr16 (!s.flags.z) ∧
    JumpsWhen s [0xFA, loByte addr16, hiByte addr16] (.jm addr16) addr16 s.flags.s ∧
    JumpsWhen s [0xF2, loByte addr16, hiByte addr16] (.jp addr16) addr16 (!s.flags.s) ∧
    JumpsWhen s [0xEA, loByte addr16, hiByte addr16] (.jpe addr16) addr16 s.flags.p ∧
    JumpsWhen s [0xE2, loByte addr16, hiByte addr16] (.jpo addr16) addr16 (!s.flags.p)

/-- R240 to R248: CALL and the eight conditional calls. -/
def Obligations.Calls : Prop :=
  ∀ (addr16 : Addr) (s : State),
    CallsWhen s [0xCD, loByte addr16, hiByte addr16] (.call addr16) addr16 true ∧
    CallsWhen s [0xDC, loByte addr16, hiByte addr16] (.cc addr16) addr16 s.flags.cy ∧
    CallsWhen s [0xD4, loByte addr16, hiByte addr16] (.cnc addr16) addr16 (!s.flags.cy) ∧
    CallsWhen s [0xCC, loByte addr16, hiByte addr16] (.cz addr16) addr16 s.flags.z ∧
    CallsWhen s [0xC4, loByte addr16, hiByte addr16] (.cnz addr16) addr16 (!s.flags.z) ∧
    CallsWhen s [0xFC, loByte addr16, hiByte addr16] (.cm addr16) addr16 s.flags.s ∧
    CallsWhen s [0xF4, loByte addr16, hiByte addr16] (.cp addr16) addr16 (!s.flags.s) ∧
    CallsWhen s [0xEC, loByte addr16, hiByte addr16] (.cpe addr16) addr16 s.flags.p ∧
    CallsWhen s [0xE4, loByte addr16, hiByte addr16] (.cpo addr16) addr16 (!s.flags.p)

/-- R250 to R258: RET and the eight conditional returns. -/
def Obligations.Returns : Prop :=
  ∀ s : State,
    ReturnsWhen s [0xC9] .ret true ∧
    ReturnsWhen s [0xD8] .rc s.flags.cy ∧ ReturnsWhen s [0xD0] .rnc (!s.flags.cy) ∧
    ReturnsWhen s [0xC8] .rz s.flags.z ∧ ReturnsWhen s [0xC0] .rnz (!s.flags.z) ∧
    ReturnsWhen s [0xF8] .rm s.flags.s ∧ ReturnsWhen s [0xF0] .rp (!s.flags.s) ∧
    ReturnsWhen s [0xE8] .rpe s.flags.p ∧ ReturnsWhen s [0xE0] .rpo (!s.flags.p)

/-! ### Undefined opcodes (30_encoding.md R96, 60_exceptions.md R270) -/

/-- R270: each of the twelve bytes, fetched as an opcode with the aliases off, sets FAULT to the byte and its address and
changes nothing else; FAULT is sticky; with the aliases on the fault is never raised. `env` is the model's own record of the
environment (log entry 13). -/
def Obligations.UndefinedOpcodeRaisesStickyFault : Prop :=
  (∀ row ∈ undefinedRows, ∀ s : State,
    (∀ byte2 byte3 : Byte, decodeBytes row.1 byte2 byte3 = row.2) ∧
    (s.plat.undocAliases = false →
      exec row.2 s = .next { s with fault := some (.undefinedOpcode row.1 s.pc) }) ∧
    (s.plat.undocAliases = true → ∃ t, exec row.2 s = .next t ∧ t.fault = s.fault) ∧
    (s.plat.undocAliases = false → s.Running → s.memKind s.pc ≠ .none → s.stored s.pc = row.1 →
      step s = .next { s with fault := some (.undefinedOpcode row.1 s.pc), env := s.passBoundary.env })) ∧
  ∀ (s : State) (r : Fault), s.fault = some r → step s = .fault r

/-- With `UndocAliases` the twelve bytes execute as NOP, JMP, RET and CALL, the address in the two bytes after the opcode (R96). -/
def Obligations.UndocumentedAliases : Prop :=
  ∀ s : State, s.plat.undocAliases = true →
    (∀ i ∈ [Instr.undefined08, .undefined10, .undefined18, .undefined20, .undefined28, .undefined30, .undefined38],
      exec i s = exec .nop s) ∧
    exec .undefinedCB s = exec (.jmp (s.peek16 (s.pc + 1))) (s.touch16 (s.pc + 1)) ∧
    exec .undefinedD9 s = exec .ret s ∧
    (∀ i ∈ [Instr.undefinedDD, .undefinedED, .undefinedFD],
      exec i s = exec (.call (s.peek16 (s.pc + 1))) (s.touch16 (s.pc + 1))) ∧
    (∃ t, exec .undefined08 s = .next t ∧ t.flags = s.flags ∧ InSequence s t 1 [] []) ∧
    (∃ t, exec .undefinedCB s = .next t ∧ JumpsTo s t (s.peek16 (s.pc + 1))) ∧
    (∃ t, exec .undefinedD9 s = .next t ∧ ReturnsFrom s t) ∧
    (∃ t, exec .undefinedDD s = .next t ∧ CallsTo s t (s.pc + 3) (s.peek16 (s.pc + 1)))

/-! ### The step (30_encoding.md R102), interrupts, reset -/

/-- A step runs the decoded instruction (R102 step 4): the bytes read at PC, PC + 1, PC + 2 modulo 65536, as many as the opcode
asks for, then `exec` of what they decode to; where memory is fitted at PC, of what the stored bytes decode to. The boundary
moves only the model's own record of the environment on. -/
def Obligations.StepRunsDecodedInstruction : Prop :=
  ∀ s : State, s.Running →
    { s.passBoundary with env := s.env } = s ∧
    (let u := s.passBoundary
     let op := u.peek u.pc
     let u1 := u.touch u.pc
     let byte2 := u1.peek (u.pc + 1)
     let u2 := u1.touch (u.pc + 1)
     let byte3 := u2.peek (u.pc + 2)
     (opcodeLength op = 1 → step s = exec (decodeBytes op 0 0) u1) ∧
     (opcodeLength op = 2 → step s = exec (decodeBytes op byte2 0) u2) ∧
     (opcodeLength op = 3 → step s = exec (decodeBytes op byte2 byte3) (u2.touch (u.pc + 2)))) ∧
    (∀ (i : Instr) (rest : List Byte), i.wf = true →
      decode [s.stored s.pc, s.stored (s.pc + 1), s.stored (s.pc + 2)] = .ok (i, rest) →
      (∀ k < (encode i).length, s.memKind (s.pc + BitVec.ofNat 16 k) ≠ .none) →
      step s = exec i s.passBoundary)

/-- R277, R278: exactly when an interrupt is accepted, what acceptance saves and changes, and that otherwise the step is the
idle of a halted processor or the next instruction. -/
def Obligations.InterruptAcceptance : Prop :=
  ∀ s : State, s.fault = none → s.boundary.reset = false →
    (∀ n, s.inte = true → s.eiShadow = false → s.boundary.request = some n →
      ∃ t, step s = .next t ∧ t.inte = false ∧ t.halted = false ∧ t.eiShadow = false ∧ t.pc.toNat = 8 * n.toNat ∧
        Pushes s t s.pc ∧ t.flags = s.flags ∧ KeepsRegisters s t [] ∧ t.fault = none ∧ t.ioTrace = s.ioTrace ∧
        t.plat = s.plat) ∧
    (s.inte = false ∨ s.eiShadow = true ∨ s.boundary.request = none →
      step s = if s.halted then .next s.passBoundary else runNext s.passBoundary)

/-- R41: EI_SHADOW is set by EI and cleared by every other instruction that completes, and while it is set no interrupt is
accepted. -/
def Obligations.EiShadowLastsOneInstruction : Prop :=
  (∀ (i : Instr) (s t : State), exec i s = .next t →
    (isUndefined i = true → s.plat.undocAliases = true) → (t.eiShadow = true ↔ i = .ei)) ∧
  (∀ s : State, s.eiShadow = true → s.acceptable = none) ∧
  (∀ (s : State) (n : BitVec 3), s.acceptable = some n ↔
    (s.inte = true ∧ s.eiShadow = false ∧ s.boundary.request = some n))

/-- R300: reset at a boundary, whatever else is pending; the registers, SP, the flags, Mem and IoTrace are not touched; from a
FAULT state there is no step, reset included. -/
def Obligations.ResetStep : Prop :=
  ∀ s : State, s.boundary.reset = true →
    (s.fault = none →
      step s = .next { s with pc := 0x0000, inte := false, halted := false, eiShadow := false,
                              env := s.passBoundary.env }) ∧
    (∀ r, s.fault = some r → step s = .fault r)

/-- R45: the state after power-on and reset, for every draw of the components the spec leaves unspecified, every InitMem,
platform and environment. That `State.reset` is one of them, and with which memory, platform and environment, is the model's
choice (log entries 1, 2, 3, 8, 13). -/
def Obligations.PowerOnState : Prop :=
  (∀ (draw : PowerOn) (initMem : Memory) (plat : Platform) (env : Environment),
    let s := State.powerOn draw initMem plat env
    s.pc = 0x0000 ∧ s.inte = false ∧ s.halted = false ∧ s.eiShadow = false ∧ s.fault = none ∧ s.ioTrace = [] ∧
      s.mem = initMem ∧ s.plat = plat ∧ s.env = env ∧ s.a = draw.a ∧ s.b = draw.b ∧ s.c = draw.c ∧ s.d = draw.d ∧
      s.e = draw.e ∧ s.h = draw.h ∧ s.l = draw.l ∧ s.sp = draw.sp ∧ s.flags = draw.flags) ∧
  (∃ draw, State.reset = State.powerOn draw [] Platform.default Environment.unscripted)

/-- R286: a final state is left only by a reset; every other step changes nothing but the model's own record of the
environment, and the state after it is final again. -/
def Obligations.FinalStateIsStable : Prop :=
  ∀ s : State, s.Final → s.boundary.reset = false →
    ∃ t, step s = .next t ∧ t.Final ∧ { t with env := s.env } = s

/-- A handler that ends EI, RET returns to the interrupted instruction with SP at its level, and no interrupt is accepted
between the two (R281); the stack is in RAM. -/
def Obligations.HandlerReturnsWhereItWasEntered : Prop :=
  ∀ (s : State) (n : BitVec 3), s.memKind (s.sp - 1) = .ram → s.memKind (s.sp - 2) = .ram →
    ∃ t u, exec .ei (s.acceptInterrupt n) = .next t ∧ t.acceptable = none ∧ exec .ret t = .next u ∧
      u.pc = s.pc ∧ u.sp = s.sp ∧ u.inte = true ∧ u.eiShadow = false ∧ u.halted = false ∧ u.flags = s.flags ∧
      KeepsRegisters s u [] ∧ KeepsMemory s u [s.sp - 1, s.sp - 2]

/-! ### The whole machine -/

/-- Every step keeps the invariant: memory in canonical form, EI_SHADOW only with INTE set and the processor running, a
truthful fault mark. -/
def Obligations.StepKeepsInvariant : Prop :=
  ∀ s t : State, s.Inv → step s = .next t → t.Inv

/-- The reset state, and every power-on state with a canonical InitMem, has the invariant. The invariant, and the values
`State.reset` names where R45 gives none (log entries 1, 2), are the model's choice. -/
def Obligations.ResetHasInvariant : Prop :=
  State.reset.Inv ∧
  ∀ (draw : PowerOn) (initMem : Memory) (plat : Platform) (env : Environment),
    Memory.wf initMem = true → (State.powerOn draw initMem plat env).Inv

/-- Every well-formed instruction answers a next state, and keeps every register, SP, each flag, byte of memory, INTE, HALTED,
FAULT, event and parameter that the tables of R27, R44 and R60 do not let it write; PC moves past it unless it branches. An
undefined byte without its alias leaves PC where it is (R270); with it, PC goes as the alias of R96 says. -/
def Obligations.EveryInstructionKeepsTheRest : Prop :=
  ∀ (i : Instr) (s : State), i.wf = true → ∃ t, exec i s = .next t ∧
    KeepsRegisters s t (registersWritten i) ∧
    (writesSp i s = false → t.sp = s.sp) ∧
    KeepsFlags s t (flagsWritten i) ∧
    KeepsMemory s t (storeAddresses i s) ∧
    (i ≠ .ei → i ≠ .di → t.inte = s.inte) ∧
    (i ≠ .hlt → t.halted = s.halted) ∧
    (isUndefined i = false ∨ s.plat.undocAliases = true → t.fault = s.fault) ∧
    ((∀ p, i ≠ .inPort p) → (∀ p, i ≠ .outPort p) → t.ioTrace = s.ioTrace) ∧
    t.plat = s.plat ∧
    (isUndefined i = false ∨ s.plat.undocAliases = true → branches i = false →
      t.pc = s.pc + BitVec.ofNat 16 (encode i).length) ∧
    (isUndefined i = true → s.plat.undocAliases = false → t.pc = s.pc)

/-- No step changes a byte where there is no RAM, or the platform; a step appends at most one event to IoTrace and never
removes one. -/
def Obligations.StepKeepsReadOnlyMemoryAndTrace : Prop :=
  ∀ s t : State, step s = .next t →
    t.plat = s.plat ∧ (∀ addr, s.memKind addr ≠ .ram → t.stored addr = s.stored addr) ∧
      ∃ events : List IoEvent, events.length ≤ 1 ∧ t.ioTrace = s.ioTrace ++ events

/-- AC is seen only by DAA and PUSH PSW, INTE by no instruction: with either changed, every other instruction does the same,
and differs at most in the same bit (R31, R39). -/
def Obligations.HiddenBitsAreNotRead : Prop :=
  ∀ (i : Instr) (s t : State) (v : Bool), exec i s = .next t →
    (i ≠ .daa → i ≠ .pushPsw → ∃ w, exec i (s.withAc v) = .next (t.withAc w)) ∧
    (∃ w, exec i (s.setInte v) = .next (t.setInte w))

/-- Packed-decimal addition (R133): ADC and then DAA on two bytes of two decimal digits give the two digits and the carry of
the decimal sum. -/
def Obligations.DecimalAdditionIsExact : Prop :=
  ∀ (x y : Nat) (src : Reg8) (s : State), x < 100 → y < 100 → s.a = packedDecimal x → s.operand src = packedDecimal y →
    ∃ t u, exec (.adc src) s = .next t ∧ exec .daa t = .next u ∧
      u.a.toNat / 16 ≤ 9 ∧ u.a.toNat % 16 ≤ 9 ∧
      100 * u.flags.cy.toNat + 10 * (u.a.toNat / 16) + u.a.toNat % 16 = x + y + s.flags.cy.toNat

/-- Instructions that undo one another (R130 to R132, R145, R146, R160 to R163) restore the operand; what each pair leaves in the
flags is said beside it: INR and DCR, INX and DCX, CMA twice, RLC and RRC, RAL and RAR, and a rotate executed eight or nine
times. The clause that eight RLC or RRC leave CY = the bit moved last follows R160 and R161 where section 4 of
96_test_vectors_tables.md says that CY is restored: to follow the two rules there is the model's choice (log entry 20). -/
def Obligations.InverseInstructionsRestore : Prop :=
  (∀ (r : Reg8) (s : State), (r = .m → s.memKind s.hl = .ram) →
    ∃ t u, exec (.inr r) s = .next t ∧ exec (.dcr r) t = .next u ∧ u.operand r = s.operand r ∧
      u.flags.cy = s.flags.cy ∧ ResultFlags (s.operand r) u.flags ∧
      u.flags.ac = decide ((s.operand r).toNat % 16 ≠ 15)) ∧
  (∀ (rp : Pair) (s : State), ∃ t u, exec (.inx rp) s = .next t ∧ exec (.dcx rp) t = .next u ∧
    u.pair rp = s.pair rp ∧ u.flags = s.flags) ∧
  (∀ s : State, ∃ t u, exec .cma s = .next t ∧ exec .cma t = .next u ∧ u.a = s.a ∧ u.flags = s.flags) ∧
  (∀ s : State, ∃ t u, exec .rlc s = .next t ∧ exec .rrc t = .next u ∧ u.a = s.a ∧
    u.flags = { s.flags with cy := s.a.getLsbD 7 }) ∧
  (∀ s : State, ∃ t u, exec .ral s = .next t ∧ exec .rar t = .next u ∧ u.a = s.a ∧ u.flags = s.flags) ∧
  (∀ s : State,
    execTimes .rlc 8 s =
      .next { s with pc := s.pc + 8, eiShadow := false, flags := { s.flags with cy := s.a.getLsbD 0 } } ∧
    execTimes .rrc 8 s =
      .next { s with pc := s.pc + 8, eiShadow := false, flags := { s.flags with cy := s.a.getLsbD 7 } } ∧
    execTimes .ral 9 s = .next { s with pc := s.pc + 9, eiShadow := false } ∧
    execTimes .rar 9 s = .next { s with pc := s.pc + 9, eiShadow := false })

/-- With the stack in RAM: PUSH then POP of a pair or of PSW, and CALL then RET, restore the registers, the flags and SP; after
CALL and RET PC is the address after the CALL (R140 to R143, R240, R250). -/
def Obligations.StackRoundTrips : Prop :=
  ∀ s : State, s.memKind (s.sp - 1) = .ram → s.memKind (s.sp - 2) = .ram →
    (∀ rp, ∃ t u, exec (.push rp) s = .next t ∧ exec (.pop rp) t = .next u ∧ u.stackPair rp = s.stackPair rp ∧
      u.sp = s.sp ∧ u.flags = s.flags ∧ KeepsRegisters s u [] ∧ KeepsMemory t u []) ∧
    (∃ t u, exec .pushPsw s = .next t ∧ exec .popPsw t = .next u ∧ u.a = s.a ∧ u.flags = s.flags ∧ u.sp = s.sp ∧
      KeepsRegisters s u []) ∧
    (∀ addr16, ∃ t u, exec (.call addr16) s = .next t ∧ exec .ret t = .next u ∧ u.pc = s.pc + 3 ∧ u.sp = s.sp ∧
      u.flags = s.flags ∧ KeepsRegisters s u [])

end Statements
end

