-- ==== Sys2Proof/Laws/State.lean ====
section
/-! SUPPORT. What each one-component update leaves in each component: one lemma for each pair, true by rfl. -/

namespace Sys2Proof.Machine

variable (s : State)

@[simp] theorem State.setA_a (v : Byte) : (s.setA v).a = v := rfl
@[simp] theorem State.setA_b (v : Byte) : (s.setA v).b = s.b := rfl
@[simp] theorem State.setA_c (v : Byte) : (s.setA v).c = s.c := rfl
@[simp] theorem State.setA_d (v : Byte) : (s.setA v).d = s.d := rfl
@[simp] theorem State.setA_e (v : Byte) : (s.setA v).e = s.e := rfl
@[simp] theorem State.setA_h (v : Byte) : (s.setA v).h = s.h := rfl
@[simp] theorem State.setA_l (v : Byte) : (s.setA v).l = s.l := rfl
@[simp] theorem State.setA_sp (v : Byte) : (s.setA v).sp = s.sp := rfl
@[simp] theorem State.setA_pc (v : Byte) : (s.setA v).pc = s.pc := rfl
@[simp] theorem State.setA_flags (v : Byte) : (s.setA v).flags = s.flags := rfl
@[simp] theorem State.setA_inte (v : Byte) : (s.setA v).inte = s.inte := rfl
@[simp] theorem State.setA_eiShadow (v : Byte) : (s.setA v).eiShadow = s.eiShadow := rfl
@[simp] theorem State.setA_halted (v : Byte) : (s.setA v).halted = s.halted := rfl
@[simp] theorem State.setA_fault (v : Byte) : (s.setA v).fault = s.fault := rfl
@[simp] theorem State.setA_mem (v : Byte) : (s.setA v).mem = s.mem := rfl
@[simp] theorem State.setA_ioTrace (v : Byte) : (s.setA v).ioTrace = s.ioTrace := rfl
@[simp] theorem State.setA_plat (v : Byte) : (s.setA v).plat = s.plat := rfl
@[simp] theorem State.setA_env (v : Byte) : (s.setA v).env = s.env := rfl

@[simp] theorem State.setB_a (v : Byte) : (s.setB v).a = s.a := rfl
@[simp] theorem State.setB_b (v : Byte) : (s.setB v).b = v := rfl
@[simp] theorem State.setB_c (v : Byte) : (s.setB v).c = s.c := rfl
@[simp] theorem State.setB_d (v : Byte) : (s.setB v).d = s.d := rfl
@[simp] theorem State.setB_e (v : Byte) : (s.setB v).e = s.e := rfl
@[simp] theorem State.setB_h (v : Byte) : (s.setB v).h = s.h := rfl
@[simp] theorem State.setB_l (v : Byte) : (s.setB v).l = s.l := rfl
@[simp] theorem State.setB_sp (v : Byte) : (s.setB v).sp = s.sp := rfl
@[simp] theorem State.setB_pc (v : Byte) : (s.setB v).pc = s.pc := rfl
@[simp] theorem State.setB_flags (v : Byte) : (s.setB v).flags = s.flags := rfl
@[simp] theorem State.setB_inte (v : Byte) : (s.setB v).inte = s.inte := rfl
@[simp] theorem State.setB_eiShadow (v : Byte) : (s.setB v).eiShadow = s.eiShadow := rfl
@[simp] theorem State.setB_halted (v : Byte) : (s.setB v).halted = s.halted := rfl
@[simp] theorem State.setB_fault (v : Byte) : (s.setB v).fault = s.fault := rfl
@[simp] theorem State.setB_mem (v : Byte) : (s.setB v).mem = s.mem := rfl
@[simp] theorem State.setB_ioTrace (v : Byte) : (s.setB v).ioTrace = s.ioTrace := rfl
@[simp] theorem State.setB_plat (v : Byte) : (s.setB v).plat = s.plat := rfl
@[simp] theorem State.setB_env (v : Byte) : (s.setB v).env = s.env := rfl

@[simp] theorem State.setC_a (v : Byte) : (s.setC v).a = s.a := rfl
@[simp] theorem State.setC_b (v : Byte) : (s.setC v).b = s.b := rfl
@[simp] theorem State.setC_c (v : Byte) : (s.setC v).c = v := rfl
@[simp] theorem State.setC_d (v : Byte) : (s.setC v).d = s.d := rfl
@[simp] theorem State.setC_e (v : Byte) : (s.setC v).e = s.e := rfl
@[simp] theorem State.setC_h (v : Byte) : (s.setC v).h = s.h := rfl
@[simp] theorem State.setC_l (v : Byte) : (s.setC v).l = s.l := rfl
@[simp] theorem State.setC_sp (v : Byte) : (s.setC v).sp = s.sp := rfl
@[simp] theorem State.setC_pc (v : Byte) : (s.setC v).pc = s.pc := rfl
@[simp] theorem State.setC_flags (v : Byte) : (s.setC v).flags = s.flags := rfl
@[simp] theorem State.setC_inte (v : Byte) : (s.setC v).inte = s.inte := rfl
@[simp] theorem State.setC_eiShadow (v : Byte) : (s.setC v).eiShadow = s.eiShadow := rfl
@[simp] theorem State.setC_halted (v : Byte) : (s.setC v).halted = s.halted := rfl
@[simp] theorem State.setC_fault (v : Byte) : (s.setC v).fault = s.fault := rfl
@[simp] theorem State.setC_mem (v : Byte) : (s.setC v).mem = s.mem := rfl
@[simp] theorem State.setC_ioTrace (v : Byte) : (s.setC v).ioTrace = s.ioTrace := rfl
@[simp] theorem State.setC_plat (v : Byte) : (s.setC v).plat = s.plat := rfl
@[simp] theorem State.setC_env (v : Byte) : (s.setC v).env = s.env := rfl

@[simp] theorem State.setD_a (v : Byte) : (s.setD v).a = s.a := rfl
@[simp] theorem State.setD_b (v : Byte) : (s.setD v).b = s.b := rfl
@[simp] theorem State.setD_c (v : Byte) : (s.setD v).c = s.c := rfl
@[simp] theorem State.setD_d (v : Byte) : (s.setD v).d = v := rfl
@[simp] theorem State.setD_e (v : Byte) : (s.setD v).e = s.e := rfl
@[simp] theorem State.setD_h (v : Byte) : (s.setD v).h = s.h := rfl
@[simp] theorem State.setD_l (v : Byte) : (s.setD v).l = s.l := rfl
@[simp] theorem State.setD_sp (v : Byte) : (s.setD v).sp = s.sp := rfl
@[simp] theorem State.setD_pc (v : Byte) : (s.setD v).pc = s.pc := rfl
@[simp] theorem State.setD_flags (v : Byte) : (s.setD v).flags = s.flags := rfl
@[simp] theorem State.setD_inte (v : Byte) : (s.setD v).inte = s.inte := rfl
@[simp] theorem State.setD_eiShadow (v : Byte) : (s.setD v).eiShadow = s.eiShadow := rfl
@[simp] theorem State.setD_halted (v : Byte) : (s.setD v).halted = s.halted := rfl
@[simp] theorem State.setD_fault (v : Byte) : (s.setD v).fault = s.fault := rfl
@[simp] theorem State.setD_mem (v : Byte) : (s.setD v).mem = s.mem := rfl
@[simp] theorem State.setD_ioTrace (v : Byte) : (s.setD v).ioTrace = s.ioTrace := rfl
@[simp] theorem State.setD_plat (v : Byte) : (s.setD v).plat = s.plat := rfl
@[simp] theorem State.setD_env (v : Byte) : (s.setD v).env = s.env := rfl

@[simp] theorem State.setE_a (v : Byte) : (s.setE v).a = s.a := rfl
@[simp] theorem State.setE_b (v : Byte) : (s.setE v).b = s.b := rfl
@[simp] theorem State.setE_c (v : Byte) : (s.setE v).c = s.c := rfl
@[simp] theorem State.setE_d (v : Byte) : (s.setE v).d = s.d := rfl
@[simp] theorem State.setE_e (v : Byte) : (s.setE v).e = v := rfl
@[simp] theorem State.setE_h (v : Byte) : (s.setE v).h = s.h := rfl
@[simp] theorem State.setE_l (v : Byte) : (s.setE v).l = s.l := rfl
@[simp] theorem State.setE_sp (v : Byte) : (s.setE v).sp = s.sp := rfl
@[simp] theorem State.setE_pc (v : Byte) : (s.setE v).pc = s.pc := rfl
@[simp] theorem State.setE_flags (v : Byte) : (s.setE v).flags = s.flags := rfl
@[simp] theorem State.setE_inte (v : Byte) : (s.setE v).inte = s.inte := rfl
@[simp] theorem State.setE_eiShadow (v : Byte) : (s.setE v).eiShadow = s.eiShadow := rfl
@[simp] theorem State.setE_halted (v : Byte) : (s.setE v).halted = s.halted := rfl
@[simp] theorem State.setE_fault (v : Byte) : (s.setE v).fault = s.fault := rfl
@[simp] theorem State.setE_mem (v : Byte) : (s.setE v).mem = s.mem := rfl
@[simp] theorem State.setE_ioTrace (v : Byte) : (s.setE v).ioTrace = s.ioTrace := rfl
@[simp] theorem State.setE_plat (v : Byte) : (s.setE v).plat = s.plat := rfl
@[simp] theorem State.setE_env (v : Byte) : (s.setE v).env = s.env := rfl

@[simp] theorem State.setH_a (v : Byte) : (s.setH v).a = s.a := rfl
@[simp] theorem State.setH_b (v : Byte) : (s.setH v).b = s.b := rfl
@[simp] theorem State.setH_c (v : Byte) : (s.setH v).c = s.c := rfl
@[simp] theorem State.setH_d (v : Byte) : (s.setH v).d = s.d := rfl
@[simp] theorem State.setH_e (v : Byte) : (s.setH v).e = s.e := rfl
@[simp] theorem State.setH_h (v : Byte) : (s.setH v).h = v := rfl
@[simp] theorem State.setH_l (v : Byte) : (s.setH v).l = s.l := rfl
@[simp] theorem State.setH_sp (v : Byte) : (s.setH v).sp = s.sp := rfl
@[simp] theorem State.setH_pc (v : Byte) : (s.setH v).pc = s.pc := rfl
@[simp] theorem State.setH_flags (v : Byte) : (s.setH v).flags = s.flags := rfl
@[simp] theorem State.setH_inte (v : Byte) : (s.setH v).inte = s.inte := rfl
@[simp] theorem State.setH_eiShadow (v : Byte) : (s.setH v).eiShadow = s.eiShadow := rfl
@[simp] theorem State.setH_halted (v : Byte) : (s.setH v).halted = s.halted := rfl
@[simp] theorem State.setH_fault (v : Byte) : (s.setH v).fault = s.fault := rfl
@[simp] theorem State.setH_mem (v : Byte) : (s.setH v).mem = s.mem := rfl
@[simp] theorem State.setH_ioTrace (v : Byte) : (s.setH v).ioTrace = s.ioTrace := rfl
@[simp] theorem State.setH_plat (v : Byte) : (s.setH v).plat = s.plat := rfl
@[simp] theorem State.setH_env (v : Byte) : (s.setH v).env = s.env := rfl

@[simp] theorem State.setL_a (v : Byte) : (s.setL v).a = s.a := rfl
@[simp] theorem State.setL_b (v : Byte) : (s.setL v).b = s.b := rfl
@[simp] theorem State.setL_c (v : Byte) : (s.setL v).c = s.c := rfl
@[simp] theorem State.setL_d (v : Byte) : (s.setL v).d = s.d := rfl
@[simp] theorem State.setL_e (v : Byte) : (s.setL v).e = s.e := rfl
@[simp] theorem State.setL_h (v : Byte) : (s.setL v).h = s.h := rfl
@[simp] theorem State.setL_l (v : Byte) : (s.setL v).l = v := rfl
@[simp] theorem State.setL_sp (v : Byte) : (s.setL v).sp = s.sp := rfl
@[simp] theorem State.setL_pc (v : Byte) : (s.setL v).pc = s.pc := rfl
@[simp] theorem State.setL_flags (v : Byte) : (s.setL v).flags = s.flags := rfl
@[simp] theorem State.setL_inte (v : Byte) : (s.setL v).inte = s.inte := rfl
@[simp] theorem State.setL_eiShadow (v : Byte) : (s.setL v).eiShadow = s.eiShadow := rfl
@[simp] theorem State.setL_halted (v : Byte) : (s.setL v).halted = s.halted := rfl
@[simp] theorem State.setL_fault (v : Byte) : (s.setL v).fault = s.fault := rfl
@[simp] theorem State.setL_mem (v : Byte) : (s.setL v).mem = s.mem := rfl
@[simp] theorem State.setL_ioTrace (v : Byte) : (s.setL v).ioTrace = s.ioTrace := rfl
@[simp] theorem State.setL_plat (v : Byte) : (s.setL v).plat = s.plat := rfl
@[simp] theorem State.setL_env (v : Byte) : (s.setL v).env = s.env := rfl

@[simp] theorem State.setSp_a (v : Addr) : (s.setSp v).a = s.a := rfl
@[simp] theorem State.setSp_b (v : Addr) : (s.setSp v).b = s.b := rfl
@[simp] theorem State.setSp_c (v : Addr) : (s.setSp v).c = s.c := rfl
@[simp] theorem State.setSp_d (v : Addr) : (s.setSp v).d = s.d := rfl
@[simp] theorem State.setSp_e (v : Addr) : (s.setSp v).e = s.e := rfl
@[simp] theorem State.setSp_h (v : Addr) : (s.setSp v).h = s.h := rfl
@[simp] theorem State.setSp_l (v : Addr) : (s.setSp v).l = s.l := rfl
@[simp] theorem State.setSp_sp (v : Addr) : (s.setSp v).sp = v := rfl
@[simp] theorem State.setSp_pc (v : Addr) : (s.setSp v).pc = s.pc := rfl
@[simp] theorem State.setSp_flags (v : Addr) : (s.setSp v).flags = s.flags := rfl
@[simp] theorem State.setSp_inte (v : Addr) : (s.setSp v).inte = s.inte := rfl
@[simp] theorem State.setSp_eiShadow (v : Addr) : (s.setSp v).eiShadow = s.eiShadow := rfl
@[simp] theorem State.setSp_halted (v : Addr) : (s.setSp v).halted = s.halted := rfl
@[simp] theorem State.setSp_fault (v : Addr) : (s.setSp v).fault = s.fault := rfl
@[simp] theorem State.setSp_mem (v : Addr) : (s.setSp v).mem = s.mem := rfl
@[simp] theorem State.setSp_ioTrace (v : Addr) : (s.setSp v).ioTrace = s.ioTrace := rfl
@[simp] theorem State.setSp_plat (v : Addr) : (s.setSp v).plat = s.plat := rfl
@[simp] theorem State.setSp_env (v : Addr) : (s.setSp v).env = s.env := rfl

@[simp] theorem State.setPc_a (v : Addr) : (s.setPc v).a = s.a := rfl
@[simp] theorem State.setPc_b (v : Addr) : (s.setPc v).b = s.b := rfl
@[simp] theorem State.setPc_c (v : Addr) : (s.setPc v).c = s.c := rfl
@[simp] theorem State.setPc_d (v : Addr) : (s.setPc v).d = s.d := rfl
@[simp] theorem State.setPc_e (v : Addr) : (s.setPc v).e = s.e := rfl
@[simp] theorem State.setPc_h (v : Addr) : (s.setPc v).h = s.h := rfl
@[simp] theorem State.setPc_l (v : Addr) : (s.setPc v).l = s.l := rfl
@[simp] theorem State.setPc_sp (v : Addr) : (s.setPc v).sp = s.sp := rfl
@[simp] theorem State.setPc_pc (v : Addr) : (s.setPc v).pc = v := rfl
@[simp] theorem State.setPc_flags (v : Addr) : (s.setPc v).flags = s.flags := rfl
@[simp] theorem State.setPc_inte (v : Addr) : (s.setPc v).inte = s.inte := rfl
@[simp] theorem State.setPc_eiShadow (v : Addr) : (s.setPc v).eiShadow = s.eiShadow := rfl
@[simp] theorem State.setPc_halted (v : Addr) : (s.setPc v).halted = s.halted := rfl
@[simp] theorem State.setPc_fault (v : Addr) : (s.setPc v).fault = s.fault := rfl
@[simp] theorem State.setPc_mem (v : Addr) : (s.setPc v).mem = s.mem := rfl
@[simp] theorem State.setPc_ioTrace (v : Addr) : (s.setPc v).ioTrace = s.ioTrace := rfl
@[simp] theorem State.setPc_plat (v : Addr) : (s.setPc v).plat = s.plat := rfl
@[simp] theorem State.setPc_env (v : Addr) : (s.setPc v).env = s.env := rfl

@[simp] theorem State.setFlags_a (v : Flags) : (s.setFlags v).a = s.a := rfl
@[simp] theorem State.setFlags_b (v : Flags) : (s.setFlags v).b = s.b := rfl
@[simp] theorem State.setFlags_c (v : Flags) : (s.setFlags v).c = s.c := rfl
@[simp] theorem State.setFlags_d (v : Flags) : (s.setFlags v).d = s.d := rfl
@[simp] theorem State.setFlags_e (v : Flags) : (s.setFlags v).e = s.e := rfl
@[simp] theorem State.setFlags_h (v : Flags) : (s.setFlags v).h = s.h := rfl
@[simp] theorem State.setFlags_l (v : Flags) : (s.setFlags v).l = s.l := rfl
@[simp] theorem State.setFlags_sp (v : Flags) : (s.setFlags v).sp = s.sp := rfl
@[simp] theorem State.setFlags_pc (v : Flags) : (s.setFlags v).pc = s.pc := rfl
@[simp] theorem State.setFlags_flags (v : Flags) : (s.setFlags v).flags = v := rfl
@[simp] theorem State.setFlags_inte (v : Flags) : (s.setFlags v).inte = s.inte := rfl
@[simp] theorem State.setFlags_eiShadow (v : Flags) : (s.setFlags v).eiShadow = s.eiShadow := rfl
@[simp] theorem State.setFlags_halted (v : Flags) : (s.setFlags v).halted = s.halted := rfl
@[simp] theorem State.setFlags_fault (v : Flags) : (s.setFlags v).fault = s.fault := rfl
@[simp] theorem State.setFlags_mem (v : Flags) : (s.setFlags v).mem = s.mem := rfl
@[simp] theorem State.setFlags_ioTrace (v : Flags) : (s.setFlags v).ioTrace = s.ioTrace := rfl
@[simp] theorem State.setFlags_plat (v : Flags) : (s.setFlags v).plat = s.plat := rfl
@[simp] theorem State.setFlags_env (v : Flags) : (s.setFlags v).env = s.env := rfl

@[simp] theorem State.setInte_a (v : Bool) : (s.setInte v).a = s.a := rfl
@[simp] theorem State.setInte_b (v : Bool) : (s.setInte v).b = s.b := rfl
@[simp] theorem State.setInte_c (v : Bool) : (s.setInte v).c = s.c := rfl
@[simp] theorem State.setInte_d (v : Bool) : (s.setInte v).d = s.d := rfl
@[simp] theorem State.setInte_e (v : Bool) : (s.setInte v).e = s.e := rfl
@[simp] theorem State.setInte_h (v : Bool) : (s.setInte v).h = s.h := rfl
@[simp] theorem State.setInte_l (v : Bool) : (s.setInte v).l = s.l := rfl
@[simp] theorem State.setInte_sp (v : Bool) : (s.setInte v).sp = s.sp := rfl
@[simp] theorem State.setInte_pc (v : Bool) : (s.setInte v).pc = s.pc := rfl
@[simp] theorem State.setInte_flags (v : Bool) : (s.setInte v).flags = s.flags := rfl
@[simp] theorem State.setInte_inte (v : Bool) : (s.setInte v).inte = v := rfl
@[simp] theorem State.setInte_eiShadow (v : Bool) : (s.setInte v).eiShadow = s.eiShadow := rfl
@[simp] theorem State.setInte_halted (v : Bool) : (s.setInte v).halted = s.halted := rfl
@[simp] theorem State.setInte_fault (v : Bool) : (s.setInte v).fault = s.fault := rfl
@[simp] theorem State.setInte_mem (v : Bool) : (s.setInte v).mem = s.mem := rfl
@[simp] theorem State.setInte_ioTrace (v : Bool) : (s.setInte v).ioTrace = s.ioTrace := rfl
@[simp] theorem State.setInte_plat (v : Bool) : (s.setInte v).plat = s.plat := rfl
@[simp] theorem State.setInte_env (v : Bool) : (s.setInte v).env = s.env := rfl

@[simp] theorem State.setEiShadow_a (v : Bool) : (s.setEiShadow v).a = s.a := rfl
@[simp] theorem State.setEiShadow_b (v : Bool) : (s.setEiShadow v).b = s.b := rfl
@[simp] theorem State.setEiShadow_c (v : Bool) : (s.setEiShadow v).c = s.c := rfl
@[simp] theorem State.setEiShadow_d (v : Bool) : (s.setEiShadow v).d = s.d := rfl
@[simp] theorem State.setEiShadow_e (v : Bool) : (s.setEiShadow v).e = s.e := rfl
@[simp] theorem State.setEiShadow_h (v : Bool) : (s.setEiShadow v).h = s.h := rfl
@[simp] theorem State.setEiShadow_l (v : Bool) : (s.setEiShadow v).l = s.l := rfl
@[simp] theorem State.setEiShadow_sp (v : Bool) : (s.setEiShadow v).sp = s.sp := rfl
@[simp] theorem State.setEiShadow_pc (v : Bool) : (s.setEiShadow v).pc = s.pc := rfl
@[simp] theorem State.setEiShadow_flags (v : Bool) : (s.setEiShadow v).flags = s.flags := rfl
@[simp] theorem State.setEiShadow_inte (v : Bool) : (s.setEiShadow v).inte = s.inte := rfl
@[simp] theorem State.setEiShadow_eiShadow (v : Bool) : (s.setEiShadow v).eiShadow = v := rfl
@[simp] theorem State.setEiShadow_halted (v : Bool) : (s.setEiShadow v).halted = s.halted := rfl
@[simp] theorem State.setEiShadow_fault (v : Bool) : (s.setEiShadow v).fault = s.fault := rfl
@[simp] theorem State.setEiShadow_mem (v : Bool) : (s.setEiShadow v).mem = s.mem := rfl
@[simp] theorem State.setEiShadow_ioTrace (v : Bool) : (s.setEiShadow v).ioTrace = s.ioTrace := rfl
@[simp] theorem State.setEiShadow_plat (v : Bool) : (s.setEiShadow v).plat = s.plat := rfl
@[simp] theorem State.setEiShadow_env (v : Bool) : (s.setEiShadow v).env = s.env := rfl

@[simp] theorem State.setHalted_a (v : Bool) : (s.setHalted v).a = s.a := rfl
@[simp] theorem State.setHalted_b (v : Bool) : (s.setHalted v).b = s.b := rfl
@[simp] theorem State.setHalted_c (v : Bool) : (s.setHalted v).c = s.c := rfl
@[simp] theorem State.setHalted_d (v : Bool) : (s.setHalted v).d = s.d := rfl
@[simp] theorem State.setHalted_e (v : Bool) : (s.setHalted v).e = s.e := rfl
@[simp] theorem State.setHalted_h (v : Bool) : (s.setHalted v).h = s.h := rfl
@[simp] theorem State.setHalted_l (v : Bool) : (s.setHalted v).l = s.l := rfl
@[simp] theorem State.setHalted_sp (v : Bool) : (s.setHalted v).sp = s.sp := rfl
@[simp] theorem State.setHalted_pc (v : Bool) : (s.setHalted v).pc = s.pc := rfl
@[simp] theorem State.setHalted_flags (v : Bool) : (s.setHalted v).flags = s.flags := rfl
@[simp] theorem State.setHalted_inte (v : Bool) : (s.setHalted v).inte = s.inte := rfl
@[simp] theorem State.setHalted_eiShadow (v : Bool) : (s.setHalted v).eiShadow = s.eiShadow := rfl
@[simp] theorem State.setHalted_halted (v : Bool) : (s.setHalted v).halted = v := rfl
@[simp] theorem State.setHalted_fault (v : Bool) : (s.setHalted v).fault = s.fault := rfl
@[simp] theorem State.setHalted_mem (v : Bool) : (s.setHalted v).mem = s.mem := rfl
@[simp] theorem State.setHalted_ioTrace (v : Bool) : (s.setHalted v).ioTrace = s.ioTrace := rfl
@[simp] theorem State.setHalted_plat (v : Bool) : (s.setHalted v).plat = s.plat := rfl
@[simp] theorem State.setHalted_env (v : Bool) : (s.setHalted v).env = s.env := rfl

@[simp] theorem State.setFault_a (v : Option Fault) : (s.setFault v).a = s.a := rfl
@[simp] theorem State.setFault_b (v : Option Fault) : (s.setFault v).b = s.b := rfl
@[simp] theorem State.setFault_c (v : Option Fault) : (s.setFault v).c = s.c := rfl
@[simp] theorem State.setFault_d (v : Option Fault) : (s.setFault v).d = s.d := rfl
@[simp] theorem State.setFault_e (v : Option Fault) : (s.setFault v).e = s.e := rfl
@[simp] theorem State.setFault_h (v : Option Fault) : (s.setFault v).h = s.h := rfl
@[simp] theorem State.setFault_l (v : Option Fault) : (s.setFault v).l = s.l := rfl
@[simp] theorem State.setFault_sp (v : Option Fault) : (s.setFault v).sp = s.sp := rfl
@[simp] theorem State.setFault_pc (v : Option Fault) : (s.setFault v).pc = s.pc := rfl
@[simp] theorem State.setFault_flags (v : Option Fault) : (s.setFault v).flags = s.flags := rfl
@[simp] theorem State.setFault_inte (v : Option Fault) : (s.setFault v).inte = s.inte := rfl
@[simp] theorem State.setFault_eiShadow (v : Option Fault) : (s.setFault v).eiShadow = s.eiShadow := rfl
@[simp] theorem State.setFault_halted (v : Option Fault) : (s.setFault v).halted = s.halted := rfl
@[simp] theorem State.setFault_fault (v : Option Fault) : (s.setFault v).fault = v := rfl
@[simp] theorem State.setFault_mem (v : Option Fault) : (s.setFault v).mem = s.mem := rfl
@[simp] theorem State.setFault_ioTrace (v : Option Fault) : (s.setFault v).ioTrace = s.ioTrace := rfl
@[simp] theorem State.setFault_plat (v : Option Fault) : (s.setFault v).plat = s.plat := rfl
@[simp] theorem State.setFault_env (v : Option Fault) : (s.setFault v).env = s.env := rfl

@[simp] theorem State.setMem_a (v : Memory) : (s.setMem v).a = s.a := rfl
@[simp] theorem State.setMem_b (v : Memory) : (s.setMem v).b = s.b := rfl
@[simp] theorem State.setMem_c (v : Memory) : (s.setMem v).c = s.c := rfl
@[simp] theorem State.setMem_d (v : Memory) : (s.setMem v).d = s.d := rfl
@[simp] theorem State.setMem_e (v : Memory) : (s.setMem v).e = s.e := rfl
@[simp] theorem State.setMem_h (v : Memory) : (s.setMem v).h = s.h := rfl
@[simp] theorem State.setMem_l (v : Memory) : (s.setMem v).l = s.l := rfl
@[simp] theorem State.setMem_sp (v : Memory) : (s.setMem v).sp = s.sp := rfl
@[simp] theorem State.setMem_pc (v : Memory) : (s.setMem v).pc = s.pc := rfl
@[simp] theorem State.setMem_flags (v : Memory) : (s.setMem v).flags = s.flags := rfl
@[simp] theorem State.setMem_inte (v : Memory) : (s.setMem v).inte = s.inte := rfl
@[simp] theorem State.setMem_eiShadow (v : Memory) : (s.setMem v).eiShadow = s.eiShadow := rfl
@[simp] theorem State.setMem_halted (v : Memory) : (s.setMem v).halted = s.halted := rfl
@[simp] theorem State.setMem_fault (v : Memory) : (s.setMem v).fault = s.fault := rfl
@[simp] theorem State.setMem_mem (v : Memory) : (s.setMem v).mem = v := rfl
@[simp] theorem State.setMem_ioTrace (v : Memory) : (s.setMem v).ioTrace = s.ioTrace := rfl
@[simp] theorem State.setMem_plat (v : Memory) : (s.setMem v).plat = s.plat := rfl
@[simp] theorem State.setMem_env (v : Memory) : (s.setMem v).env = s.env := rfl

@[simp] theorem State.setIoTrace_a (v : List IoEvent) : (s.setIoTrace v).a = s.a := rfl
@[simp] theorem State.setIoTrace_b (v : List IoEvent) : (s.setIoTrace v).b = s.b := rfl
@[simp] theorem State.setIoTrace_c (v : List IoEvent) : (s.setIoTrace v).c = s.c := rfl
@[simp] theorem State.setIoTrace_d (v : List IoEvent) : (s.setIoTrace v).d = s.d := rfl
@[simp] theorem State.setIoTrace_e (v : List IoEvent) : (s.setIoTrace v).e = s.e := rfl
@[simp] theorem State.setIoTrace_h (v : List IoEvent) : (s.setIoTrace v).h = s.h := rfl
@[simp] theorem State.setIoTrace_l (v : List IoEvent) : (s.setIoTrace v).l = s.l := rfl
@[simp] theorem State.setIoTrace_sp (v : List IoEvent) : (s.setIoTrace v).sp = s.sp := rfl
@[simp] theorem State.setIoTrace_pc (v : List IoEvent) : (s.setIoTrace v).pc = s.pc := rfl
@[simp] theorem State.setIoTrace_flags (v : List IoEvent) : (s.setIoTrace v).flags = s.flags := rfl
@[simp] theorem State.setIoTrace_inte (v : List IoEvent) : (s.setIoTrace v).inte = s.inte := rfl
@[simp] theorem State.setIoTrace_eiShadow (v : List IoEvent) : (s.setIoTrace v).eiShadow = s.eiShadow := rfl
@[simp] theorem State.setIoTrace_halted (v : List IoEvent) : (s.setIoTrace v).halted = s.halted := rfl
@[simp] theorem State.setIoTrace_fault (v : List IoEvent) : (s.setIoTrace v).fault = s.fault := rfl
@[simp] theorem State.setIoTrace_mem (v : List IoEvent) : (s.setIoTrace v).mem = s.mem := rfl
@[simp] theorem State.setIoTrace_ioTrace (v : List IoEvent) : (s.setIoTrace v).ioTrace = v := rfl
@[simp] theorem State.setIoTrace_plat (v : List IoEvent) : (s.setIoTrace v).plat = s.plat := rfl
@[simp] theorem State.setIoTrace_env (v : List IoEvent) : (s.setIoTrace v).env = s.env := rfl

@[simp] theorem State.setEnv_a (v : Environment) : (s.setEnv v).a = s.a := rfl
@[simp] theorem State.setEnv_b (v : Environment) : (s.setEnv v).b = s.b := rfl
@[simp] theorem State.setEnv_c (v : Environment) : (s.setEnv v).c = s.c := rfl
@[simp] theorem State.setEnv_d (v : Environment) : (s.setEnv v).d = s.d := rfl
@[simp] theorem State.setEnv_e (v : Environment) : (s.setEnv v).e = s.e := rfl
@[simp] theorem State.setEnv_h (v : Environment) : (s.setEnv v).h = s.h := rfl
@[simp] theorem State.setEnv_l (v : Environment) : (s.setEnv v).l = s.l := rfl
@[simp] theorem State.setEnv_sp (v : Environment) : (s.setEnv v).sp = s.sp := rfl
@[simp] theorem State.setEnv_pc (v : Environment) : (s.setEnv v).pc = s.pc := rfl
@[simp] theorem State.setEnv_flags (v : Environment) : (s.setEnv v).flags = s.flags := rfl
@[simp] theorem State.setEnv_inte (v : Environment) : (s.setEnv v).inte = s.inte := rfl
@[simp] theorem State.setEnv_eiShadow (v : Environment) : (s.setEnv v).eiShadow = s.eiShadow := rfl
@[simp] theorem State.setEnv_halted (v : Environment) : (s.setEnv v).halted = s.halted := rfl
@[simp] theorem State.setEnv_fault (v : Environment) : (s.setEnv v).fault = s.fault := rfl
@[simp] theorem State.setEnv_mem (v : Environment) : (s.setEnv v).mem = s.mem := rfl
@[simp] theorem State.setEnv_ioTrace (v : Environment) : (s.setEnv v).ioTrace = s.ioTrace := rfl
@[simp] theorem State.setEnv_plat (v : Environment) : (s.setEnv v).plat = s.plat := rfl
@[simp] theorem State.setEnv_env (v : Environment) : (s.setEnv v).env = v := rfl

end Sys2Proof.Machine
end

