-- ==== Sys2Proof/Laws/Memory.lean ====
section
/-! SUPPORT. The laws of the list that holds memory: what a byte reads as after a store, and that every operation keeps
the canonical form. -/

namespace Sys2Proof.Machine

/-! ### Reading after writing -/

@[simp] theorem Memory.read_nil (addr : Nat) : Memory.read [] addr = unlistedByte := rfl

theorem Memory.read_erase_same (m : Memory) (addr : Nat) : Memory.read (Memory.erase m addr) addr = unlistedByte := by
  induction m with
  | nil => rfl
  | cons cell m ih =>
    by_cases hk : cell.1 = addr
    · simpa [Memory.erase, hk] using ih
    · simpa [Memory.erase, hk, Memory.read] using ih

theorem Memory.read_erase_other (m : Memory) {addr x : Nat} (hx : x ≠ addr) :
    Memory.read (Memory.erase m addr) x = Memory.read m x := by
  induction m with
  | nil => rfl
  | cons cell m ih =>
    by_cases hk : cell.1 = addr
    · have hne : cell.1 ≠ x := fun e => hx (e.symm.trans hk)
      simpa [Memory.erase, hk, Memory.read, hne, hx.symm] using ih
    · by_cases hkx : cell.1 = x
      · simp [Memory.erase, Memory.read, hkx, hx]
      · simpa [Memory.erase, hk, Memory.read, hkx] using ih

theorem Memory.read_insert_same (m : Memory) (addr : Nat) (v : Byte) (hm : ∀ cell ∈ m, cell.1 ≠ addr) :
    Memory.read (Memory.insert m addr v) addr = v := by
  induction m with
  | nil => simp [Memory.insert, Memory.read]
  | cons cell m ih =>
    have hk : cell.1 ≠ addr := hm cell (by simp)
    have hrest := ih fun c hc => hm c (by simp [hc])
    by_cases hlt : addr < cell.1
    · simp [Memory.insert, Memory.read, hlt]
    · simpa [Memory.insert, Memory.read, hlt, hk] using hrest

theorem Memory.read_insert_other (m : Memory) {addr x : Nat} (v : Byte) (hx : x ≠ addr) :
    Memory.read (Memory.insert m addr v) x = Memory.read m x := by
  induction m with
  | nil => simp [Memory.insert, Memory.read, hx.symm]
  | cons cell m ih =>
    by_cases hlt : addr < cell.1
    · simp [Memory.insert, Memory.read, hlt, hx.symm]
    · by_cases hkx : cell.1 = x
      · have hlx : ¬ addr < x := hkx ▸ hlt
        simp [Memory.insert, Memory.read, hkx, hlx]
      · simpa [Memory.insert, Memory.read, hlt, hkx] using ih

theorem Memory.erase_ne (m : Memory) (addr : Nat) : ∀ cell ∈ Memory.erase m addr, cell.1 ≠ addr := by
  simp [Memory.erase]

/-- The byte stored is the byte read, in every list, canonical or not. -/
@[simp] theorem Memory.read_write_same (m : Memory) (addr : Nat) (v : Byte) :
    Memory.read (Memory.write m addr v) addr = v := by
  unfold Memory.write
  split
  · next hv => rw [Memory.read_erase_same, hv]
  · exact Memory.read_insert_same _ _ _ (Memory.erase_ne m addr)

/-- Every other byte reads as before. -/
theorem Memory.read_write_other (m : Memory) {addr x : Nat} (v : Byte) (hx : x ≠ addr) :
    Memory.read (Memory.write m addr v) x = Memory.read m x := by
  unfold Memory.write
  split
  · exact Memory.read_erase_other m hx
  · rw [Memory.read_insert_other _ _ hx, Memory.read_erase_other m hx]

/-! ### The canonical form -/

theorem Memory.wf_cons (cell : Host.Cell) (m : Memory) :
    Memory.wf (cell :: m) = true ↔
      cell.1 < 65536 ∧ cell.2 ≠ unlistedByte ∧ (∀ c ∈ m, cell.1 < c.1) ∧ Memory.wf m = true := by
  simp [Memory.wf, and_assoc]

theorem Memory.erase_keeps_wf (m : Memory) (addr : Nat) (hm : Memory.wf m = true) :
    Memory.wf (Memory.erase m addr) = true := by
  induction m with
  | nil => rfl
  | cons cell m ih =>
    obtain ⟨hk, hv, hlt, hrest⟩ := (Memory.wf_cons cell m).1 hm
    by_cases hcell : cell.1 = addr
    · simpa [Memory.erase, hcell] using ih hrest
    · have hsub : ∀ c ∈ Memory.erase m addr, cell.1 < c.1 := fun c hc => hlt c (List.mem_of_mem_filter hc)
      have hstep : Memory.erase (cell :: m) addr = cell :: Memory.erase m addr := by simp [Memory.erase, hcell]
      rw [hstep]
      exact (Memory.wf_cons _ _).2 ⟨hk, hv, hsub, ih hrest⟩

theorem Memory.insert_mem (m : Memory) (addr : Nat) (v : Byte) {c : Host.Cell} (hc : c ∈ Memory.insert m addr v) :
    c = (addr, v) ∨ c ∈ m := by
  induction m with
  | nil => simpa [Memory.insert] using hc
  | cons cell m ih =>
    by_cases hlt : addr < cell.1
    · simpa [Memory.insert, hlt] using hc
    · rcases (by simpa [Memory.insert, hlt] using hc : c = cell ∨ c ∈ Memory.insert m addr v) with h | h
      · simp [h]
      · rcases ih h with h | h <;> simp [h]

theorem Memory.insert_keeps_wf (m : Memory) (addr : Nat) (v : Byte) (haddr : addr < 65536) (hv : v ≠ unlistedByte)
    (hne : ∀ cell ∈ m, cell.1 ≠ addr) (hm : Memory.wf m = true) : Memory.wf (Memory.insert m addr v) = true := by
  induction m with
  | nil => simp [Memory.insert, Memory.wf, haddr, hv]
  | cons cell m ih =>
    obtain ⟨hk, hw, hlt, hrest⟩ := (Memory.wf_cons cell m).1 hm
    have hcell : cell.1 ≠ addr := hne cell (by simp)
    by_cases hless : addr < cell.1
    · have hstep : Memory.insert (cell :: m) addr v = (addr, v) :: cell :: m := by simp [Memory.insert, hless]
      rw [hstep]
      refine (Memory.wf_cons _ _).2 ⟨haddr, hv, fun c hc => ?_, hm⟩
      rcases (by simpa using hc : c = cell ∨ c ∈ m) with h | h
      · simpa [h] using hless
      · exact Nat.lt_trans hless (hlt c h)
    · have hstep : Memory.insert (cell :: m) addr v = cell :: Memory.insert m addr v := by simp [Memory.insert, hless]
      rw [hstep]
      refine (Memory.wf_cons _ _).2 ⟨hk, hw, fun c hc => ?_, ih (fun c hc => hne c (by simp [hc])) hrest⟩
      rcases Memory.insert_mem m addr v hc with h | h
      · rw [h]
        exact Nat.lt_of_le_of_ne (Nat.le_of_not_lt hless) hcell
      · exact hlt c h

/-- A store keeps the canonical form. -/
theorem Memory.write_keeps_wf (m : Memory) (addr : Nat) (v : Byte) (haddr : addr < 65536) (hm : Memory.wf m = true) :
    Memory.wf (Memory.write m addr v) = true := by
  unfold Memory.write
  split
  · exact Memory.erase_keeps_wf m addr hm
  · next hv => exact Memory.insert_keeps_wf _ _ _ haddr hv (Memory.erase_ne m addr) (Memory.erase_keeps_wf m addr hm)

end Sys2Proof.Machine
end

