-- ==== Sys2Proof/Laws/Ops.lean ====
section
/-! SUPPORT. What each shared operation does, once: the components it leaves as they were (simp lemmas), and a lemma that
says what it writes. Proofs cite these instead of unfolding the operations. -/

namespace Sys2Proof.Machine

variable (s : State)

/-! ### The components each operation leaves alone -/

@[simp] theorem State.draw_a : (s.draw).a = s.a := rfl
@[simp] theorem State.draw_b : (s.draw).b = s.b := rfl
@[simp] theorem State.draw_c : (s.draw).c = s.c := rfl
@[simp] theorem State.draw_d : (s.draw).d = s.d := rfl
@[simp] theorem State.draw_e : (s.draw).e = s.e := rfl
@[simp] theorem State.draw_h : (s.draw).h = s.h := rfl
@[simp] theorem State.draw_l : (s.draw).l = s.l := rfl
@[simp] theorem State.draw_sp : (s.draw).sp = s.sp := rfl
@[simp] theorem State.draw_pc : (s.draw).pc = s.pc := rfl
@[simp] theorem State.draw_flags : (s.draw).flags = s.flags := rfl
@[simp] theorem State.draw_inte : (s.draw).inte = s.inte := rfl
@[simp] theorem State.draw_eiShadow : (s.draw).eiShadow = s.eiShadow := rfl
@[simp] theorem State.draw_halted : (s.draw).halted = s.halted := rfl
@[simp] theorem State.draw_fault : (s.draw).fault = s.fault := rfl
@[simp] theorem State.draw_mem : (s.draw).mem = s.mem := rfl
@[simp] theorem State.draw_ioTrace : (s.draw).ioTrace = s.ioTrace := rfl
@[simp] theorem State.draw_plat : (s.draw).plat = s.plat := rfl

@[simp] theorem State.touch_a (addr : Addr) : (s.touch addr).a = s.a := by unfold State.touch; split <;> rfl
@[simp] theorem State.touch_b (addr : Addr) : (s.touch addr).b = s.b := by unfold State.touch; split <;> rfl
@[simp] theorem State.touch_c (addr : Addr) : (s.touch addr).c = s.c := by unfold State.touch; split <;> rfl
@[simp] theorem State.touch_d (addr : Addr) : (s.touch addr).d = s.d := by unfold State.touch; split <;> rfl
@[simp] theorem State.touch_e (addr : Addr) : (s.touch addr).e = s.e := by unfold State.touch; split <;> rfl
@[simp] theorem State.touch_h (addr : Addr) : (s.touch addr).h = s.h := by unfold State.touch; split <;> rfl
@[simp] theorem State.touch_l (addr : Addr) : (s.touch addr).l = s.l := by unfold State.touch; split <;> rfl
@[simp] theorem State.touch_sp (addr : Addr) : (s.touch addr).sp = s.sp := by unfold State.touch; split <;> rfl
@[simp] theorem State.touch_pc (addr : Addr) : (s.touch addr).pc = s.pc := by unfold State.touch; split <;> rfl
@[simp] theorem State.touch_flags (addr : Addr) : (s.touch addr).flags = s.flags := by unfold State.touch; split <;> rfl
@[simp] theorem State.touch_inte (addr : Addr) : (s.touch addr).inte = s.inte := by unfold State.touch; split <;> rfl
@[simp] theorem State.touch_eiShadow (addr : Addr) : (s.touch addr).eiShadow = s.eiShadow := by unfold State.touch; split <;> rfl
@[simp] theorem State.touch_halted (addr : Addr) : (s.touch addr).halted = s.halted := by unfold State.touch; split <;> rfl
@[simp] theorem State.touch_fault (addr : Addr) : (s.touch addr).fault = s.fault := by unfold State.touch; split <;> rfl
@[simp] theorem State.touch_mem (addr : Addr) : (s.touch addr).mem = s.mem := by unfold State.touch; split <;> rfl
@[simp] theorem State.touch_ioTrace (addr : Addr) : (s.touch addr).ioTrace = s.ioTrace := by unfold State.touch; split <;> rfl
@[simp] theorem State.touch_plat (addr : Addr) : (s.touch addr).plat = s.plat := by unfold State.touch; split <;> rfl

@[simp] theorem State.store_a (addr : Addr) (v : Byte) : (s.store addr v).a = s.a := by unfold State.store; split <;> rfl
@[simp] theorem State.store_b (addr : Addr) (v : Byte) : (s.store addr v).b = s.b := by unfold State.store; split <;> rfl
@[simp] theorem State.store_c (addr : Addr) (v : Byte) : (s.store addr v).c = s.c := by unfold State.store; split <;> rfl
@[simp] theorem State.store_d (addr : Addr) (v : Byte) : (s.store addr v).d = s.d := by unfold State.store; split <;> rfl
@[simp] theorem State.store_e (addr : Addr) (v : Byte) : (s.store addr v).e = s.e := by unfold State.store; split <;> rfl
@[simp] theorem State.store_h (addr : Addr) (v : Byte) : (s.store addr v).h = s.h := by unfold State.store; split <;> rfl
@[simp] theorem State.store_l (addr : Addr) (v : Byte) : (s.store addr v).l = s.l := by unfold State.store; split <;> rfl
@[simp] theorem State.store_sp (addr : Addr) (v : Byte) : (s.store addr v).sp = s.sp := by unfold State.store; split <;> rfl
@[simp] theorem State.store_pc (addr : Addr) (v : Byte) : (s.store addr v).pc = s.pc := by unfold State.store; split <;> rfl
@[simp] theorem State.store_flags (addr : Addr) (v : Byte) : (s.store addr v).flags = s.flags := by unfold State.store; split <;> rfl
@[simp] theorem State.store_inte (addr : Addr) (v : Byte) : (s.store addr v).inte = s.inte := by unfold State.store; split <;> rfl
@[simp] theorem State.store_eiShadow (addr : Addr) (v : Byte) : (s.store addr v).eiShadow = s.eiShadow := by unfold State.store; split <;> rfl
@[simp] theorem State.store_halted (addr : Addr) (v : Byte) : (s.store addr v).halted = s.halted := by unfold State.store; split <;> rfl
@[simp] theorem State.store_fault (addr : Addr) (v : Byte) : (s.store addr v).fault = s.fault := by unfold State.store; split <;> rfl
@[simp] theorem State.store_ioTrace (addr : Addr) (v : Byte) : (s.store addr v).ioTrace = s.ioTrace := by unfold State.store; split <;> rfl
@[simp] theorem State.store_plat (addr : Addr) (v : Byte) : (s.store addr v).plat = s.plat := by unfold State.store; split <;> rfl
@[simp] theorem State.store_env (addr : Addr) (v : Byte) : (s.store addr v).env = s.env := by unfold State.store; split <;> rfl

@[simp] theorem State.touch16_a (addr : Addr) : (s.touch16 addr).a = s.a := by simp [State.touch16]
@[simp] theorem State.touch16_b (addr : Addr) : (s.touch16 addr).b = s.b := by simp [State.touch16]
@[simp] theorem State.touch16_c (addr : Addr) : (s.touch16 addr).c = s.c := by simp [State.touch16]
@[simp] theorem State.touch16_d (addr : Addr) : (s.touch16 addr).d = s.d := by simp [State.touch16]
@[simp] theorem State.touch16_e (addr : Addr) : (s.touch16 addr).e = s.e := by simp [State.touch16]
@[simp] theorem State.touch16_h (addr : Addr) : (s.touch16 addr).h = s.h := by simp [State.touch16]
@[simp] theorem State.touch16_l (addr : Addr) : (s.touch16 addr).l = s.l := by simp [State.touch16]
@[simp] theorem State.touch16_sp (addr : Addr) : (s.touch16 addr).sp = s.sp := by simp [State.touch16]
@[simp] theorem State.touch16_pc (addr : Addr) : (s.touch16 addr).pc = s.pc := by simp [State.touch16]
@[simp] theorem State.touch16_flags (addr : Addr) : (s.touch16 addr).flags = s.flags := by simp [State.touch16]
@[simp] theorem State.touch16_inte (addr : Addr) : (s.touch16 addr).inte = s.inte := by simp [State.touch16]
@[simp] theorem State.touch16_eiShadow (addr : Addr) : (s.touch16 addr).eiShadow = s.eiShadow := by simp [State.touch16]
@[simp] theorem State.touch16_halted (addr : Addr) : (s.touch16 addr).halted = s.halted := by simp [State.touch16]
@[simp] theorem State.touch16_fault (addr : Addr) : (s.touch16 addr).fault = s.fault := by simp [State.touch16]
@[simp] theorem State.touch16_mem (addr : Addr) : (s.touch16 addr).mem = s.mem := by simp [State.touch16]
@[simp] theorem State.touch16_ioTrace (addr : Addr) : (s.touch16 addr).ioTrace = s.ioTrace := by simp [State.touch16]
@[simp] theorem State.touch16_plat (addr : Addr) : (s.touch16 addr).plat = s.plat := by simp [State.touch16]

@[simp] theorem State.store16_a (addr w : Addr) : (s.store16 addr w).a = s.a := by simp [State.store16]
@[simp] theorem State.store16_b (addr w : Addr) : (s.store16 addr w).b = s.b := by simp [State.store16]
@[simp] theorem State.store16_c (addr w : Addr) : (s.store16 addr w).c = s.c := by simp [State.store16]
@[simp] theorem State.store16_d (addr w : Addr) : (s.store16 addr w).d = s.d := by simp [State.store16]
@[simp] theorem State.store16_e (addr w : Addr) : (s.store16 addr w).e = s.e := by simp [State.store16]
@[simp] theorem State.store16_h (addr w : Addr) : (s.store16 addr w).h = s.h := by simp [State.store16]
@[simp] theorem State.store16_l (addr w : Addr) : (s.store16 addr w).l = s.l := by simp [State.store16]
@[simp] theorem State.store16_sp (addr w : Addr) : (s.store16 addr w).sp = s.sp := by simp [State.store16]
@[simp] theorem State.store16_pc (addr w : Addr) : (s.store16 addr w).pc = s.pc := by simp [State.store16]
@[simp] theorem State.store16_flags (addr w : Addr) : (s.store16 addr w).flags = s.flags := by simp [State.store16]
@[simp] theorem State.store16_inte (addr w : Addr) : (s.store16 addr w).inte = s.inte := by simp [State.store16]
@[simp] theorem State.store16_eiShadow (addr w : Addr) : (s.store16 addr w).eiShadow = s.eiShadow := by simp [State.store16]
@[simp] theorem State.store16_halted (addr w : Addr) : (s.store16 addr w).halted = s.halted := by simp [State.store16]
@[simp] theorem State.store16_fault (addr w : Addr) : (s.store16 addr w).fault = s.fault := by simp [State.store16]
@[simp] theorem State.store16_ioTrace (addr w : Addr) : (s.store16 addr w).ioTrace = s.ioTrace := by simp [State.store16]
@[simp] theorem State.store16_plat (addr w : Addr) : (s.store16 addr w).plat = s.plat := by simp [State.store16]
@[simp] theorem State.store16_env (addr w : Addr) : (s.store16 addr w).env = s.env := by simp [State.store16]

@[simp] theorem State.push16_a (w : Addr) : (s.push16 w).a = s.a := by simp [State.push16]
@[simp] theorem State.push16_b (w : Addr) : (s.push16 w).b = s.b := by simp [State.push16]
@[simp] theorem State.push16_c (w : Addr) : (s.push16 w).c = s.c := by simp [State.push16]
@[simp] theorem State.push16_d (w : Addr) : (s.push16 w).d = s.d := by simp [State.push16]
@[simp] theorem State.push16_e (w : Addr) : (s.push16 w).e = s.e := by simp [State.push16]
@[simp] theorem State.push16_h (w : Addr) : (s.push16 w).h = s.h := by simp [State.push16]
@[simp] theorem State.push16_l (w : Addr) : (s.push16 w).l = s.l := by simp [State.push16]
@[simp] theorem State.push16_pc (w : Addr) : (s.push16 w).pc = s.pc := by simp [State.push16]
@[simp] theorem State.push16_flags (w : Addr) : (s.push16 w).flags = s.flags := by simp [State.push16]
@[simp] theorem State.push16_inte (w : Addr) : (s.push16 w).inte = s.inte := by simp [State.push16]
@[simp] theorem State.push16_eiShadow (w : Addr) : (s.push16 w).eiShadow = s.eiShadow := by simp [State.push16]
@[simp] theorem State.push16_halted (w : Addr) : (s.push16 w).halted = s.halted := by simp [State.push16]
@[simp] theorem State.push16_fault (w : Addr) : (s.push16 w).fault = s.fault := by simp [State.push16]
@[simp] theorem State.push16_ioTrace (w : Addr) : (s.push16 w).ioTrace = s.ioTrace := by simp [State.push16]
@[simp] theorem State.push16_plat (w : Addr) : (s.push16 w).plat = s.plat := by simp [State.push16]
@[simp] theorem State.push16_env (w : Addr) : (s.push16 w).env = s.env := by simp [State.push16]

@[simp] theorem State.popped_a : (s.popped).a = s.a := by simp [State.popped]
@[simp] theorem State.popped_b : (s.popped).b = s.b := by simp [State.popped]
@[simp] theorem State.popped_c : (s.popped).c = s.c := by simp [State.popped]
@[simp] theorem State.popped_d : (s.popped).d = s.d := by simp [State.popped]
@[simp] theorem State.popped_e : (s.popped).e = s.e := by simp [State.popped]
@[simp] theorem State.popped_h : (s.popped).h = s.h := by simp [State.popped]
@[simp] theorem State.popped_l : (s.popped).l = s.l := by simp [State.popped]
@[simp] theorem State.popped_pc : (s.popped).pc = s.pc := by simp [State.popped]
@[simp] theorem State.popped_flags : (s.popped).flags = s.flags := by simp [State.popped]
@[simp] theorem State.popped_inte : (s.popped).inte = s.inte := by simp [State.popped]
@[simp] theorem State.popped_eiShadow : (s.popped).eiShadow = s.eiShadow := by simp [State.popped]
@[simp] theorem State.popped_halted : (s.popped).halted = s.halted := by simp [State.popped]
@[simp] theorem State.popped_fault : (s.popped).fault = s.fault := by simp [State.popped]
@[simp] theorem State.popped_mem : (s.popped).mem = s.mem := by simp [State.popped]
@[simp] theorem State.popped_ioTrace : (s.popped).ioTrace = s.ioTrace := by simp [State.popped]
@[simp] theorem State.popped_plat : (s.popped).plat = s.plat := by simp [State.popped]

@[simp] theorem State.ioRead_a (port : Byte) : (s.ioRead port).a = s.a := rfl
@[simp] theorem State.ioRead_b (port : Byte) : (s.ioRead port).b = s.b := rfl
@[simp] theorem State.ioRead_c (port : Byte) : (s.ioRead port).c = s.c := rfl
@[simp] theorem State.ioRead_d (port : Byte) : (s.ioRead port).d = s.d := rfl
@[simp] theorem State.ioRead_e (port : Byte) : (s.ioRead port).e = s.e := rfl
@[simp] theorem State.ioRead_h (port : Byte) : (s.ioRead port).h = s.h := rfl
@[simp] theorem State.ioRead_l (port : Byte) : (s.ioRead port).l = s.l := rfl
@[simp] theorem State.ioRead_sp (port : Byte) : (s.ioRead port).sp = s.sp := rfl
@[simp] theorem State.ioRead_pc (port : Byte) : (s.ioRead port).pc = s.pc := rfl
@[simp] theorem State.ioRead_flags (port : Byte) : (s.ioRead port).flags = s.flags := rfl
@[simp] theorem State.ioRead_inte (port : Byte) : (s.ioRead port).inte = s.inte := rfl
@[simp] theorem State.ioRead_eiShadow (port : Byte) : (s.ioRead port).eiShadow = s.eiShadow := rfl
@[simp] theorem State.ioRead_halted (port : Byte) : (s.ioRead port).halted = s.halted := rfl
@[simp] theorem State.ioRead_fault (port : Byte) : (s.ioRead port).fault = s.fault := rfl
@[simp] theorem State.ioRead_mem (port : Byte) : (s.ioRead port).mem = s.mem := rfl
@[simp] theorem State.ioRead_plat (port : Byte) : (s.ioRead port).plat = s.plat := rfl

@[simp] theorem State.ioWrite_a (port v : Byte) : (s.ioWrite port v).a = s.a := rfl
@[simp] theorem State.ioWrite_b (port v : Byte) : (s.ioWrite port v).b = s.b := rfl
@[simp] theorem State.ioWrite_c (port v : Byte) : (s.ioWrite port v).c = s.c := rfl
@[simp] theorem State.ioWrite_d (port v : Byte) : (s.ioWrite port v).d = s.d := rfl
@[simp] theorem State.ioWrite_e (port v : Byte) : (s.ioWrite port v).e = s.e := rfl
@[simp] theorem State.ioWrite_h (port v : Byte) : (s.ioWrite port v).h = s.h := rfl
@[simp] theorem State.ioWrite_l (port v : Byte) : (s.ioWrite port v).l = s.l := rfl
@[simp] theorem State.ioWrite_sp (port v : Byte) : (s.ioWrite port v).sp = s.sp := rfl
@[simp] theorem State.ioWrite_pc (port v : Byte) : (s.ioWrite port v).pc = s.pc := rfl
@[simp] theorem State.ioWrite_flags (port v : Byte) : (s.ioWrite port v).flags = s.flags := rfl
@[simp] theorem State.ioWrite_inte (port v : Byte) : (s.ioWrite port v).inte = s.inte := rfl
@[simp] theorem State.ioWrite_eiShadow (port v : Byte) : (s.ioWrite port v).eiShadow = s.eiShadow := rfl
@[simp] theorem State.ioWrite_halted (port v : Byte) : (s.ioWrite port v).halted = s.halted := rfl
@[simp] theorem State.ioWrite_fault (port v : Byte) : (s.ioWrite port v).fault = s.fault := rfl
@[simp] theorem State.ioWrite_mem (port v : Byte) : (s.ioWrite port v).mem = s.mem := rfl
@[simp] theorem State.ioWrite_plat (port v : Byte) : (s.ioWrite port v).plat = s.plat := rfl
@[simp] theorem State.ioWrite_env (port v : Byte) : (s.ioWrite port v).env = s.env := rfl

@[simp] theorem State.advance_a (n : Addr) : (s.advance n).a = s.a := rfl
@[simp] theorem State.advance_b (n : Addr) : (s.advance n).b = s.b := rfl
@[simp] theorem State.advance_c (n : Addr) : (s.advance n).c = s.c := rfl
@[simp] theorem State.advance_d (n : Addr) : (s.advance n).d = s.d := rfl
@[simp] theorem State.advance_e (n : Addr) : (s.advance n).e = s.e := rfl
@[simp] theorem State.advance_h (n : Addr) : (s.advance n).h = s.h := rfl
@[simp] theorem State.advance_l (n : Addr) : (s.advance n).l = s.l := rfl
@[simp] theorem State.advance_sp (n : Addr) : (s.advance n).sp = s.sp := rfl
@[simp] theorem State.advance_flags (n : Addr) : (s.advance n).flags = s.flags := rfl
@[simp] theorem State.advance_inte (n : Addr) : (s.advance n).inte = s.inte := rfl
@[simp] theorem State.advance_halted (n : Addr) : (s.advance n).halted = s.halted := rfl
@[simp] theorem State.advance_fault (n : Addr) : (s.advance n).fault = s.fault := rfl
@[simp] theorem State.advance_mem (n : Addr) : (s.advance n).mem = s.mem := rfl
@[simp] theorem State.advance_ioTrace (n : Addr) : (s.advance n).ioTrace = s.ioTrace := rfl
@[simp] theorem State.advance_plat (n : Addr) : (s.advance n).plat = s.plat := rfl
@[simp] theorem State.advance_env (n : Addr) : (s.advance n).env = s.env := rfl

@[simp] theorem State.callTo_a (w : Addr) : (s.callTo w).a = s.a := by simp [State.callTo]
@[simp] theorem State.callTo_b (w : Addr) : (s.callTo w).b = s.b := by simp [State.callTo]
@[simp] theorem State.callTo_c (w : Addr) : (s.callTo w).c = s.c := by simp [State.callTo]
@[simp] theorem State.callTo_d (w : Addr) : (s.callTo w).d = s.d := by simp [State.callTo]
@[simp] theorem State.callTo_e (w : Addr) : (s.callTo w).e = s.e := by simp [State.callTo]
@[simp] theorem State.callTo_h (w : Addr) : (s.callTo w).h = s.h := by simp [State.callTo]
@[simp] theorem State.callTo_l (w : Addr) : (s.callTo w).l = s.l := by simp [State.callTo]
@[simp] theorem State.callTo_flags (w : Addr) : (s.callTo w).flags = s.flags := by simp [State.callTo]
@[simp] theorem State.callTo_inte (w : Addr) : (s.callTo w).inte = s.inte := by simp [State.callTo]
@[simp] theorem State.callTo_eiShadow (w : Addr) : (s.callTo w).eiShadow = s.eiShadow := by simp [State.callTo]
@[simp] theorem State.callTo_halted (w : Addr) : (s.callTo w).halted = s.halted := by simp [State.callTo]
@[simp] theorem State.callTo_fault (w : Addr) : (s.callTo w).fault = s.fault := by simp [State.callTo]
@[simp] theorem State.callTo_ioTrace (w : Addr) : (s.callTo w).ioTrace = s.ioTrace := by simp [State.callTo]
@[simp] theorem State.callTo_plat (w : Addr) : (s.callTo w).plat = s.plat := by simp [State.callTo]
@[simp] theorem State.callTo_env (w : Addr) : (s.callTo w).env = s.env := by simp [State.callTo]

@[simp] theorem State.restart_a (n : BitVec 3) : (s.restart n).a = s.a := by simp [State.restart]
@[simp] theorem State.restart_b (n : BitVec 3) : (s.restart n).b = s.b := by simp [State.restart]
@[simp] theorem State.restart_c (n : BitVec 3) : (s.restart n).c = s.c := by simp [State.restart]
@[simp] theorem State.restart_d (n : BitVec 3) : (s.restart n).d = s.d := by simp [State.restart]
@[simp] theorem State.restart_e (n : BitVec 3) : (s.restart n).e = s.e := by simp [State.restart]
@[simp] theorem State.restart_h (n : BitVec 3) : (s.restart n).h = s.h := by simp [State.restart]
@[simp] theorem State.restart_l (n : BitVec 3) : (s.restart n).l = s.l := by simp [State.restart]
@[simp] theorem State.restart_flags (n : BitVec 3) : (s.restart n).flags = s.flags := by simp [State.restart]
@[simp] theorem State.restart_inte (n : BitVec 3) : (s.restart n).inte = s.inte := by simp [State.restart]
@[simp] theorem State.restart_eiShadow (n : BitVec 3) : (s.restart n).eiShadow = s.eiShadow := by simp [State.restart]
@[simp] theorem State.restart_halted (n : BitVec 3) : (s.restart n).halted = s.halted := by simp [State.restart]
@[simp] theorem State.restart_fault (n : BitVec 3) : (s.restart n).fault = s.fault := by simp [State.restart]
@[simp] theorem State.restart_ioTrace (n : BitVec 3) : (s.restart n).ioTrace = s.ioTrace := by simp [State.restart]
@[simp] theorem State.restart_plat (n : BitVec 3) : (s.restart n).plat = s.plat := by simp [State.restart]
@[simp] theorem State.restart_env (n : BitVec 3) : (s.restart n).env = s.env := by simp [State.restart]

@[simp] theorem State.acceptInterrupt_a (n : BitVec 3) : (s.acceptInterrupt n).a = s.a := by simp [State.acceptInterrupt]
@[simp] theorem State.acceptInterrupt_b (n : BitVec 3) : (s.acceptInterrupt n).b = s.b := by simp [State.acceptInterrupt]
@[simp] theorem State.acceptInterrupt_c (n : BitVec 3) : (s.acceptInterrupt n).c = s.c := by simp [State.acceptInterrupt]
@[simp] theorem State.acceptInterrupt_d (n : BitVec 3) : (s.acceptInterrupt n).d = s.d := by simp [State.acceptInterrupt]
@[simp] theorem State.acceptInterrupt_e (n : BitVec 3) : (s.acceptInterrupt n).e = s.e := by simp [State.acceptInterrupt]
@[simp] theorem State.acceptInterrupt_h (n : BitVec 3) : (s.acceptInterrupt n).h = s.h := by simp [State.acceptInterrupt]
@[simp] theorem State.acceptInterrupt_l (n : BitVec 3) : (s.acceptInterrupt n).l = s.l := by simp [State.acceptInterrupt]
@[simp] theorem State.acceptInterrupt_flags (n : BitVec 3) : (s.acceptInterrupt n).flags = s.flags := by simp [State.acceptInterrupt]
@[simp] theorem State.acceptInterrupt_fault (n : BitVec 3) : (s.acceptInterrupt n).fault = s.fault := by simp [State.acceptInterrupt]
@[simp] theorem State.acceptInterrupt_ioTrace (n : BitVec 3) : (s.acceptInterrupt n).ioTrace = s.ioTrace := by simp [State.acceptInterrupt]
@[simp] theorem State.acceptInterrupt_plat (n : BitVec 3) : (s.acceptInterrupt n).plat = s.plat := by simp [State.acceptInterrupt]
@[simp] theorem State.acceptInterrupt_env (n : BitVec 3) : (s.acceptInterrupt n).env = s.env := by simp [State.acceptInterrupt]

@[simp] theorem State.returnFrom_a : (s.returnFrom).a = s.a := by simp [State.returnFrom]
@[simp] theorem State.returnFrom_b : (s.returnFrom).b = s.b := by simp [State.returnFrom]
@[simp] theorem State.returnFrom_c : (s.returnFrom).c = s.c := by simp [State.returnFrom]
@[simp] theorem State.returnFrom_d : (s.returnFrom).d = s.d := by simp [State.returnFrom]
@[simp] theorem State.returnFrom_e : (s.returnFrom).e = s.e := by simp [State.returnFrom]
@[simp] theorem State.returnFrom_h : (s.returnFrom).h = s.h := by simp [State.returnFrom]
@[simp] theorem State.returnFrom_l : (s.returnFrom).l = s.l := by simp [State.returnFrom]
@[simp] theorem State.returnFrom_flags : (s.returnFrom).flags = s.flags := by simp [State.returnFrom]
@[simp] theorem State.returnFrom_inte : (s.returnFrom).inte = s.inte := by simp [State.returnFrom]
@[simp] theorem State.returnFrom_eiShadow : (s.returnFrom).eiShadow = s.eiShadow := by simp [State.returnFrom]
@[simp] theorem State.returnFrom_halted : (s.returnFrom).halted = s.halted := by simp [State.returnFrom]
@[simp] theorem State.returnFrom_fault : (s.returnFrom).fault = s.fault := by simp [State.returnFrom]
@[simp] theorem State.returnFrom_mem : (s.returnFrom).mem = s.mem := by simp [State.returnFrom]
@[simp] theorem State.returnFrom_ioTrace : (s.returnFrom).ioTrace = s.ioTrace := by simp [State.returnFrom]
@[simp] theorem State.returnFrom_plat : (s.returnFrom).plat = s.plat := by simp [State.returnFrom]

@[simp] theorem State.applyReset_a : (s.applyReset).a = s.a := rfl
@[simp] theorem State.applyReset_b : (s.applyReset).b = s.b := rfl
@[simp] theorem State.applyReset_c : (s.applyReset).c = s.c := rfl
@[simp] theorem State.applyReset_d : (s.applyReset).d = s.d := rfl
@[simp] theorem State.applyReset_e : (s.applyReset).e = s.e := rfl
@[simp] theorem State.applyReset_h : (s.applyReset).h = s.h := rfl
@[simp] theorem State.applyReset_l : (s.applyReset).l = s.l := rfl
@[simp] theorem State.applyReset_sp : (s.applyReset).sp = s.sp := rfl
@[simp] theorem State.applyReset_flags : (s.applyReset).flags = s.flags := rfl
@[simp] theorem State.applyReset_fault : (s.applyReset).fault = s.fault := rfl
@[simp] theorem State.applyReset_mem : (s.applyReset).mem = s.mem := rfl
@[simp] theorem State.applyReset_ioTrace : (s.applyReset).ioTrace = s.ioTrace := rfl
@[simp] theorem State.applyReset_plat : (s.applyReset).plat = s.plat := rfl
@[simp] theorem State.applyReset_env : (s.applyReset).env = s.env := rfl

@[simp] theorem State.raiseUndefined_a (op : Byte) : (s.raiseUndefined op).a = s.a := rfl
@[simp] theorem State.raiseUndefined_b (op : Byte) : (s.raiseUndefined op).b = s.b := rfl
@[simp] theorem State.raiseUndefined_c (op : Byte) : (s.raiseUndefined op).c = s.c := rfl
@[simp] theorem State.raiseUndefined_d (op : Byte) : (s.raiseUndefined op).d = s.d := rfl
@[simp] theorem State.raiseUndefined_e (op : Byte) : (s.raiseUndefined op).e = s.e := rfl
@[simp] theorem State.raiseUndefined_h (op : Byte) : (s.raiseUndefined op).h = s.h := rfl
@[simp] theorem State.raiseUndefined_l (op : Byte) : (s.raiseUndefined op).l = s.l := rfl
@[simp] theorem State.raiseUndefined_sp (op : Byte) : (s.raiseUndefined op).sp = s.sp := rfl
@[simp] theorem State.raiseUndefined_pc (op : Byte) : (s.raiseUndefined op).pc = s.pc := rfl
@[simp] theorem State.raiseUndefined_flags (op : Byte) : (s.raiseUndefined op).flags = s.flags := rfl
@[simp] theorem State.raiseUndefined_inte (op : Byte) : (s.raiseUndefined op).inte = s.inte := rfl
@[simp] theorem State.raiseUndefined_eiShadow (op : Byte) : (s.raiseUndefined op).eiShadow = s.eiShadow := rfl
@[simp] theorem State.raiseUndefined_halted (op : Byte) : (s.raiseUndefined op).halted = s.halted := rfl
@[simp] theorem State.raiseUndefined_mem (op : Byte) : (s.raiseUndefined op).mem = s.mem := rfl
@[simp] theorem State.raiseUndefined_ioTrace (op : Byte) : (s.raiseUndefined op).ioTrace = s.ioTrace := rfl
@[simp] theorem State.raiseUndefined_plat (op : Byte) : (s.raiseUndefined op).plat = s.plat := rfl
@[simp] theorem State.raiseUndefined_env (op : Byte) : (s.raiseUndefined op).env = s.env := rfl

@[simp] theorem State.passBoundary_a : (s.passBoundary).a = s.a := by unfold State.passBoundary; split <;> rfl
@[simp] theorem State.passBoundary_b : (s.passBoundary).b = s.b := by unfold State.passBoundary; split <;> rfl
@[simp] theorem State.passBoundary_c : (s.passBoundary).c = s.c := by unfold State.passBoundary; split <;> rfl
@[simp] theorem State.passBoundary_d : (s.passBoundary).d = s.d := by unfold State.passBoundary; split <;> rfl
@[simp] theorem State.passBoundary_e : (s.passBoundary).e = s.e := by unfold State.passBoundary; split <;> rfl
@[simp] theorem State.passBoundary_h : (s.passBoundary).h = s.h := by unfold State.passBoundary; split <;> rfl
@[simp] theorem State.passBoundary_l : (s.passBoundary).l = s.l := by unfold State.passBoundary; split <;> rfl
@[simp] theorem State.passBoundary_sp : (s.passBoundary).sp = s.sp := by unfold State.passBoundary; split <;> rfl
@[simp] theorem State.passBoundary_pc : (s.passBoundary).pc = s.pc := by unfold State.passBoundary; split <;> rfl
@[simp] theorem State.passBoundary_flags : (s.passBoundary).flags = s.flags := by unfold State.passBoundary; split <;> rfl
@[simp] theorem State.passBoundary_inte : (s.passBoundary).inte = s.inte := by unfold State.passBoundary; split <;> rfl
@[simp] theorem State.passBoundary_eiShadow : (s.passBoundary).eiShadow = s.eiShadow := by unfold State.passBoundary; split <;> rfl
@[simp] theorem State.passBoundary_halted : (s.passBoundary).halted = s.halted := by unfold State.passBoundary; split <;> rfl
@[simp] theorem State.passBoundary_fault : (s.passBoundary).fault = s.fault := by unfold State.passBoundary; split <;> rfl
@[simp] theorem State.passBoundary_mem : (s.passBoundary).mem = s.mem := by unfold State.passBoundary; split <;> rfl
@[simp] theorem State.passBoundary_ioTrace : (s.passBoundary).ioTrace = s.ioTrace := by unfold State.passBoundary; split <;> rfl
@[simp] theorem State.passBoundary_plat : (s.passBoundary).plat = s.plat := by unfold State.passBoundary; split <;> rfl

@[simp] theorem State.setBc_a (w : Addr) : (s.setBc w).a = s.a := rfl
@[simp] theorem State.setBc_d (w : Addr) : (s.setBc w).d = s.d := rfl
@[simp] theorem State.setBc_e (w : Addr) : (s.setBc w).e = s.e := rfl
@[simp] theorem State.setBc_h (w : Addr) : (s.setBc w).h = s.h := rfl
@[simp] theorem State.setBc_l (w : Addr) : (s.setBc w).l = s.l := rfl
@[simp] theorem State.setBc_sp (w : Addr) : (s.setBc w).sp = s.sp := rfl
@[simp] theorem State.setBc_pc (w : Addr) : (s.setBc w).pc = s.pc := rfl
@[simp] theorem State.setBc_flags (w : Addr) : (s.setBc w).flags = s.flags := rfl
@[simp] theorem State.setBc_inte (w : Addr) : (s.setBc w).inte = s.inte := rfl
@[simp] theorem State.setBc_eiShadow (w : Addr) : (s.setBc w).eiShadow = s.eiShadow := rfl
@[simp] theorem State.setBc_halted (w : Addr) : (s.setBc w).halted = s.halted := rfl
@[simp] theorem State.setBc_fault (w : Addr) : (s.setBc w).fault = s.fault := rfl
@[simp] theorem State.setBc_mem (w : Addr) : (s.setBc w).mem = s.mem := rfl
@[simp] theorem State.setBc_ioTrace (w : Addr) : (s.setBc w).ioTrace = s.ioTrace := rfl
@[simp] theorem State.setBc_plat (w : Addr) : (s.setBc w).plat = s.plat := rfl
@[simp] theorem State.setBc_env (w : Addr) : (s.setBc w).env = s.env := rfl

@[simp] theorem State.setDe_a (w : Addr) : (s.setDe w).a = s.a := rfl
@[simp] theorem State.setDe_b (w : Addr) : (s.setDe w).b = s.b := rfl
@[simp] theorem State.setDe_c (w : Addr) : (s.setDe w).c = s.c := rfl
@[simp] theorem State.setDe_h (w : Addr) : (s.setDe w).h = s.h := rfl
@[simp] theorem State.setDe_l (w : Addr) : (s.setDe w).l = s.l := rfl
@[simp] theorem State.setDe_sp (w : Addr) : (s.setDe w).sp = s.sp := rfl
@[simp] theorem State.setDe_pc (w : Addr) : (s.setDe w).pc = s.pc := rfl
@[simp] theorem State.setDe_flags (w : Addr) : (s.setDe w).flags = s.flags := rfl
@[simp] theorem State.setDe_inte (w : Addr) : (s.setDe w).inte = s.inte := rfl
@[simp] theorem State.setDe_eiShadow (w : Addr) : (s.setDe w).eiShadow = s.eiShadow := rfl
@[simp] theorem State.setDe_halted (w : Addr) : (s.setDe w).halted = s.halted := rfl
@[simp] theorem State.setDe_fault (w : Addr) : (s.setDe w).fault = s.fault := rfl
@[simp] theorem State.setDe_mem (w : Addr) : (s.setDe w).mem = s.mem := rfl
@[simp] theorem State.setDe_ioTrace (w : Addr) : (s.setDe w).ioTrace = s.ioTrace := rfl
@[simp] theorem State.setDe_plat (w : Addr) : (s.setDe w).plat = s.plat := rfl
@[simp] theorem State.setDe_env (w : Addr) : (s.setDe w).env = s.env := rfl

@[simp] theorem State.setHl_a (w : Addr) : (s.setHl w).a = s.a := rfl
@[simp] theorem State.setHl_b (w : Addr) : (s.setHl w).b = s.b := rfl
@[simp] theorem State.setHl_c (w : Addr) : (s.setHl w).c = s.c := rfl
@[simp] theorem State.setHl_d (w : Addr) : (s.setHl w).d = s.d := rfl
@[simp] theorem State.setHl_e (w : Addr) : (s.setHl w).e = s.e := rfl
@[simp] theorem State.setHl_sp (w : Addr) : (s.setHl w).sp = s.sp := rfl
@[simp] theorem State.setHl_pc (w : Addr) : (s.setHl w).pc = s.pc := rfl
@[simp] theorem State.setHl_flags (w : Addr) : (s.setHl w).flags = s.flags := rfl
@[simp] theorem State.setHl_inte (w : Addr) : (s.setHl w).inte = s.inte := rfl
@[simp] theorem State.setHl_eiShadow (w : Addr) : (s.setHl w).eiShadow = s.eiShadow := rfl
@[simp] theorem State.setHl_halted (w : Addr) : (s.setHl w).halted = s.halted := rfl
@[simp] theorem State.setHl_fault (w : Addr) : (s.setHl w).fault = s.fault := rfl
@[simp] theorem State.setHl_mem (w : Addr) : (s.setHl w).mem = s.mem := rfl
@[simp] theorem State.setHl_ioTrace (w : Addr) : (s.setHl w).ioTrace = s.ioTrace := rfl
@[simp] theorem State.setHl_plat (w : Addr) : (s.setHl w).plat = s.plat := rfl
@[simp] theorem State.setHl_env (w : Addr) : (s.setHl w).env = s.env := rfl

@[simp] theorem State.setPsw_b (w : Addr) : (s.setPsw w).b = s.b := rfl
@[simp] theorem State.setPsw_c (w : Addr) : (s.setPsw w).c = s.c := rfl
@[simp] theorem State.setPsw_d (w : Addr) : (s.setPsw w).d = s.d := rfl
@[simp] theorem State.setPsw_e (w : Addr) : (s.setPsw w).e = s.e := rfl
@[simp] theorem State.setPsw_h (w : Addr) : (s.setPsw w).h = s.h := rfl
@[simp] theorem State.setPsw_l (w : Addr) : (s.setPsw w).l = s.l := rfl
@[simp] theorem State.setPsw_sp (w : Addr) : (s.setPsw w).sp = s.sp := rfl
@[simp] theorem State.setPsw_pc (w : Addr) : (s.setPsw w).pc = s.pc := rfl
@[simp] theorem State.setPsw_inte (w : Addr) : (s.setPsw w).inte = s.inte := rfl
@[simp] theorem State.setPsw_eiShadow (w : Addr) : (s.setPsw w).eiShadow = s.eiShadow := rfl
@[simp] theorem State.setPsw_halted (w : Addr) : (s.setPsw w).halted = s.halted := rfl
@[simp] theorem State.setPsw_fault (w : Addr) : (s.setPsw w).fault = s.fault := rfl
@[simp] theorem State.setPsw_mem (w : Addr) : (s.setPsw w).mem = s.mem := rfl
@[simp] theorem State.setPsw_ioTrace (w : Addr) : (s.setPsw w).ioTrace = s.ioTrace := rfl
@[simp] theorem State.setPsw_plat (w : Addr) : (s.setPsw w).plat = s.plat := rfl
@[simp] theorem State.setPsw_env (w : Addr) : (s.setPsw w).env = s.env := rfl

@[simp] theorem State.accumulate_b (r : AluResult) : (s.accumulate r).b = s.b := rfl
@[simp] theorem State.accumulate_c (r : AluResult) : (s.accumulate r).c = s.c := rfl
@[simp] theorem State.accumulate_d (r : AluResult) : (s.accumulate r).d = s.d := rfl
@[simp] theorem State.accumulate_e (r : AluResult) : (s.accumulate r).e = s.e := rfl
@[simp] theorem State.accumulate_h (r : AluResult) : (s.accumulate r).h = s.h := rfl
@[simp] theorem State.accumulate_l (r : AluResult) : (s.accumulate r).l = s.l := rfl
@[simp] theorem State.accumulate_sp (r : AluResult) : (s.accumulate r).sp = s.sp := rfl
@[simp] theorem State.accumulate_pc (r : AluResult) : (s.accumulate r).pc = s.pc := rfl
@[simp] theorem State.accumulate_inte (r : AluResult) : (s.accumulate r).inte = s.inte := rfl
@[simp] theorem State.accumulate_eiShadow (r : AluResult) : (s.accumulate r).eiShadow = s.eiShadow := rfl
@[simp] theorem State.accumulate_halted (r : AluResult) : (s.accumulate r).halted = s.halted := rfl
@[simp] theorem State.accumulate_fault (r : AluResult) : (s.accumulate r).fault = s.fault := rfl
@[simp] theorem State.accumulate_mem (r : AluResult) : (s.accumulate r).mem = s.mem := rfl
@[simp] theorem State.accumulate_ioTrace (r : AluResult) : (s.accumulate r).ioTrace = s.ioTrace := rfl
@[simp] theorem State.accumulate_plat (r : AluResult) : (s.accumulate r).plat = s.plat := rfl
@[simp] theorem State.accumulate_env (r : AluResult) : (s.accumulate r).env = s.env := rfl

@[simp] theorem State.touchOperand_a (r : Reg8) : (s.touchOperand r).a = s.a := by cases r <;> simp [State.touchOperand]
@[simp] theorem State.touchOperand_b (r : Reg8) : (s.touchOperand r).b = s.b := by cases r <;> simp [State.touchOperand]
@[simp] theorem State.touchOperand_c (r : Reg8) : (s.touchOperand r).c = s.c := by cases r <;> simp [State.touchOperand]
@[simp] theorem State.touchOperand_d (r : Reg8) : (s.touchOperand r).d = s.d := by cases r <;> simp [State.touchOperand]
@[simp] theorem State.touchOperand_e (r : Reg8) : (s.touchOperand r).e = s.e := by cases r <;> simp [State.touchOperand]
@[simp] theorem State.touchOperand_h (r : Reg8) : (s.touchOperand r).h = s.h := by cases r <;> simp [State.touchOperand]
@[simp] theorem State.touchOperand_l (r : Reg8) : (s.touchOperand r).l = s.l := by cases r <;> simp [State.touchOperand]
@[simp] theorem State.touchOperand_sp (r : Reg8) : (s.touchOperand r).sp = s.sp := by cases r <;> simp [State.touchOperand]
@[simp] theorem State.touchOperand_pc (r : Reg8) : (s.touchOperand r).pc = s.pc := by cases r <;> simp [State.touchOperand]
@[simp] theorem State.touchOperand_flags (r : Reg8) : (s.touchOperand r).flags = s.flags := by cases r <;> simp [State.touchOperand]
@[simp] theorem State.touchOperand_inte (r : Reg8) : (s.touchOperand r).inte = s.inte := by cases r <;> simp [State.touchOperand]
@[simp] theorem State.touchOperand_eiShadow (r : Reg8) : (s.touchOperand r).eiShadow = s.eiShadow := by cases r <;> simp [State.touchOperand]
@[simp] theorem State.touchOperand_halted (r : Reg8) : (s.touchOperand r).halted = s.halted := by cases r <;> simp [State.touchOperand]
@[simp] theorem State.touchOperand_fault (r : Reg8) : (s.touchOperand r).fault = s.fault := by cases r <;> simp [State.touchOperand]
@[simp] theorem State.touchOperand_mem (r : Reg8) : (s.touchOperand r).mem = s.mem := by cases r <;> simp [State.touchOperand]
@[simp] theorem State.touchOperand_ioTrace (r : Reg8) : (s.touchOperand r).ioTrace = s.ioTrace := by cases r <;> simp [State.touchOperand]
@[simp] theorem State.touchOperand_plat (r : Reg8) : (s.touchOperand r).plat = s.plat := by cases r <;> simp [State.touchOperand]

@[simp] theorem State.setOperand_sp (r : Reg8) (v : Byte) : (s.setOperand r v).sp = s.sp := by cases r <;> simp [State.setOperand]
@[simp] theorem State.setOperand_pc (r : Reg8) (v : Byte) : (s.setOperand r v).pc = s.pc := by cases r <;> simp [State.setOperand]
@[simp] theorem State.setOperand_flags (r : Reg8) (v : Byte) : (s.setOperand r v).flags = s.flags := by cases r <;> simp [State.setOperand]
@[simp] theorem State.setOperand_inte (r : Reg8) (v : Byte) : (s.setOperand r v).inte = s.inte := by cases r <;> simp [State.setOperand]
@[simp] theorem State.setOperand_eiShadow (r : Reg8) (v : Byte) : (s.setOperand r v).eiShadow = s.eiShadow := by cases r <;> simp [State.setOperand]
@[simp] theorem State.setOperand_halted (r : Reg8) (v : Byte) : (s.setOperand r v).halted = s.halted := by cases r <;> simp [State.setOperand]
@[simp] theorem State.setOperand_fault (r : Reg8) (v : Byte) : (s.setOperand r v).fault = s.fault := by cases r <;> simp [State.setOperand]
@[simp] theorem State.setOperand_ioTrace (r : Reg8) (v : Byte) : (s.setOperand r v).ioTrace = s.ioTrace := by cases r <;> simp [State.setOperand]
@[simp] theorem State.setOperand_plat (r : Reg8) (v : Byte) : (s.setOperand r v).plat = s.plat := by cases r <;> simp [State.setOperand]
@[simp] theorem State.setOperand_env (r : Reg8) (v : Byte) : (s.setOperand r v).env = s.env := by cases r <;> simp [State.setOperand]

@[simp] theorem State.setPair_a (p : Pair) (w : Addr) : (s.setPair p w).a = s.a := by cases p <;> simp [State.setPair]
@[simp] theorem State.setPair_pc (p : Pair) (w : Addr) : (s.setPair p w).pc = s.pc := by cases p <;> simp [State.setPair]
@[simp] theorem State.setPair_flags (p : Pair) (w : Addr) : (s.setPair p w).flags = s.flags := by cases p <;> simp [State.setPair]
@[simp] theorem State.setPair_inte (p : Pair) (w : Addr) : (s.setPair p w).inte = s.inte := by cases p <;> simp [State.setPair]
@[simp] theorem State.setPair_eiShadow (p : Pair) (w : Addr) : (s.setPair p w).eiShadow = s.eiShadow := by cases p <;> simp [State.setPair]
@[simp] theorem State.setPair_halted (p : Pair) (w : Addr) : (s.setPair p w).halted = s.halted := by cases p <;> simp [State.setPair]
@[simp] theorem State.setPair_fault (p : Pair) (w : Addr) : (s.setPair p w).fault = s.fault := by cases p <;> simp [State.setPair]
@[simp] theorem State.setPair_mem (p : Pair) (w : Addr) : (s.setPair p w).mem = s.mem := by cases p <;> simp [State.setPair]
@[simp] theorem State.setPair_ioTrace (p : Pair) (w : Addr) : (s.setPair p w).ioTrace = s.ioTrace := by cases p <;> simp [State.setPair]
@[simp] theorem State.setPair_plat (p : Pair) (w : Addr) : (s.setPair p w).plat = s.plat := by cases p <;> simp [State.setPair]
@[simp] theorem State.setPair_env (p : Pair) (w : Addr) : (s.setPair p w).env = s.env := by cases p <;> simp [State.setPair]

@[simp] theorem State.setStackPair_a (p : StackPair) (w : Addr) : (s.setStackPair p w).a = s.a := by cases p <;> simp [State.setStackPair]
@[simp] theorem State.setStackPair_sp (p : StackPair) (w : Addr) : (s.setStackPair p w).sp = s.sp := by cases p <;> simp [State.setStackPair]
@[simp] theorem State.setStackPair_pc (p : StackPair) (w : Addr) : (s.setStackPair p w).pc = s.pc := by cases p <;> simp [State.setStackPair]
@[simp] theorem State.setStackPair_flags (p : StackPair) (w : Addr) : (s.setStackPair p w).flags = s.flags := by cases p <;> simp [State.setStackPair]
@[simp] theorem State.setStackPair_inte (p : StackPair) (w : Addr) : (s.setStackPair p w).inte = s.inte := by cases p <;> simp [State.setStackPair]
@[simp] theorem State.setStackPair_eiShadow (p : StackPair) (w : Addr) : (s.setStackPair p w).eiShadow = s.eiShadow := by cases p <;> simp [State.setStackPair]
@[simp] theorem State.setStackPair_halted (p : StackPair) (w : Addr) : (s.setStackPair p w).halted = s.halted := by cases p <;> simp [State.setStackPair]
@[simp] theorem State.setStackPair_fault (p : StackPair) (w : Addr) : (s.setStackPair p w).fault = s.fault := by cases p <;> simp [State.setStackPair]
@[simp] theorem State.setStackPair_mem (p : StackPair) (w : Addr) : (s.setStackPair p w).mem = s.mem := by cases p <;> simp [State.setStackPair]
@[simp] theorem State.setStackPair_ioTrace (p : StackPair) (w : Addr) : (s.setStackPair p w).ioTrace = s.ioTrace := by cases p <;> simp [State.setStackPair]
@[simp] theorem State.setStackPair_plat (p : StackPair) (w : Addr) : (s.setStackPair p w).plat = s.plat := by cases p <;> simp [State.setStackPair]
@[simp] theorem State.setStackPair_env (p : StackPair) (w : Addr) : (s.setStackPair p w).env = s.env := by cases p <;> simp [State.setStackPair]

@[simp] theorem State.touchAlias_a : (s.touchAlias).a = s.a := by simp [State.touchAlias]
@[simp] theorem State.touchAlias_b : (s.touchAlias).b = s.b := by simp [State.touchAlias]
@[simp] theorem State.touchAlias_c : (s.touchAlias).c = s.c := by simp [State.touchAlias]
@[simp] theorem State.touchAlias_d : (s.touchAlias).d = s.d := by simp [State.touchAlias]
@[simp] theorem State.touchAlias_e : (s.touchAlias).e = s.e := by simp [State.touchAlias]
@[simp] theorem State.touchAlias_h : (s.touchAlias).h = s.h := by simp [State.touchAlias]
@[simp] theorem State.touchAlias_l : (s.touchAlias).l = s.l := by simp [State.touchAlias]
@[simp] theorem State.touchAlias_sp : (s.touchAlias).sp = s.sp := by simp [State.touchAlias]
@[simp] theorem State.touchAlias_pc : (s.touchAlias).pc = s.pc := by simp [State.touchAlias]
@[simp] theorem State.touchAlias_flags : (s.touchAlias).flags = s.flags := by simp [State.touchAlias]
@[simp] theorem State.touchAlias_inte : (s.touchAlias).inte = s.inte := by simp [State.touchAlias]
@[simp] theorem State.touchAlias_eiShadow : (s.touchAlias).eiShadow = s.eiShadow := by simp [State.touchAlias]
@[simp] theorem State.touchAlias_halted : (s.touchAlias).halted = s.halted := by simp [State.touchAlias]
@[simp] theorem State.touchAlias_fault : (s.touchAlias).fault = s.fault := by simp [State.touchAlias]
@[simp] theorem State.touchAlias_mem : (s.touchAlias).mem = s.mem := by simp [State.touchAlias]
@[simp] theorem State.touchAlias_ioTrace : (s.touchAlias).ioTrace = s.ioTrace := by simp [State.touchAlias]
@[simp] theorem State.touchAlias_plat : (s.touchAlias).plat = s.plat := by simp [State.touchAlias]

@[simp] theorem State.jumpIf_a (cond : Cond) (w : Addr) : (s.jumpIf cond w).a = s.a := by unfold State.jumpIf; split <;> simp
@[simp] theorem State.jumpIf_b (cond : Cond) (w : Addr) : (s.jumpIf cond w).b = s.b := by unfold State.jumpIf; split <;> simp
@[simp] theorem State.jumpIf_c (cond : Cond) (w : Addr) : (s.jumpIf cond w).c = s.c := by unfold State.jumpIf; split <;> simp
@[simp] theorem State.jumpIf_d (cond : Cond) (w : Addr) : (s.jumpIf cond w).d = s.d := by unfold State.jumpIf; split <;> simp
@[simp] theorem State.jumpIf_e (cond : Cond) (w : Addr) : (s.jumpIf cond w).e = s.e := by unfold State.jumpIf; split <;> simp
@[simp] theorem State.jumpIf_h (cond : Cond) (w : Addr) : (s.jumpIf cond w).h = s.h := by unfold State.jumpIf; split <;> simp
@[simp] theorem State.jumpIf_l (cond : Cond) (w : Addr) : (s.jumpIf cond w).l = s.l := by unfold State.jumpIf; split <;> simp
@[simp] theorem State.jumpIf_sp (cond : Cond) (w : Addr) : (s.jumpIf cond w).sp = s.sp := by unfold State.jumpIf; split <;> simp
@[simp] theorem State.jumpIf_flags (cond : Cond) (w : Addr) : (s.jumpIf cond w).flags = s.flags := by unfold State.jumpIf; split <;> simp
@[simp] theorem State.jumpIf_inte (cond : Cond) (w : Addr) : (s.jumpIf cond w).inte = s.inte := by unfold State.jumpIf; split <;> simp
@[simp] theorem State.jumpIf_eiShadow (cond : Cond) (w : Addr) : (s.jumpIf cond w).eiShadow = s.eiShadow := by unfold State.jumpIf; split <;> simp
@[simp] theorem State.jumpIf_halted (cond : Cond) (w : Addr) : (s.jumpIf cond w).halted = s.halted := by unfold State.jumpIf; split <;> simp
@[simp] theorem State.jumpIf_fault (cond : Cond) (w : Addr) : (s.jumpIf cond w).fault = s.fault := by unfold State.jumpIf; split <;> simp
@[simp] theorem State.jumpIf_mem (cond : Cond) (w : Addr) : (s.jumpIf cond w).mem = s.mem := by unfold State.jumpIf; split <;> simp
@[simp] theorem State.jumpIf_ioTrace (cond : Cond) (w : Addr) : (s.jumpIf cond w).ioTrace = s.ioTrace := by unfold State.jumpIf; split <;> simp
@[simp] theorem State.jumpIf_plat (cond : Cond) (w : Addr) : (s.jumpIf cond w).plat = s.plat := by unfold State.jumpIf; split <;> simp
@[simp] theorem State.jumpIf_env (cond : Cond) (w : Addr) : (s.jumpIf cond w).env = s.env := by unfold State.jumpIf; split <;> simp

@[simp] theorem State.callIf_a (cond : Cond) (w : Addr) : (s.callIf cond w).a = s.a := by unfold State.callIf; split <;> simp
@[simp] theorem State.callIf_b (cond : Cond) (w : Addr) : (s.callIf cond w).b = s.b := by unfold State.callIf; split <;> simp
@[simp] theorem State.callIf_c (cond : Cond) (w : Addr) : (s.callIf cond w).c = s.c := by unfold State.callIf; split <;> simp
@[simp] theorem State.callIf_d (cond : Cond) (w : Addr) : (s.callIf cond w).d = s.d := by unfold State.callIf; split <;> simp
@[simp] theorem State.callIf_e (cond : Cond) (w : Addr) : (s.callIf cond w).e = s.e := by unfold State.callIf; split <;> simp
@[simp] theorem State.callIf_h (cond : Cond) (w : Addr) : (s.callIf cond w).h = s.h := by unfold State.callIf; split <;> simp
@[simp] theorem State.callIf_l (cond : Cond) (w : Addr) : (s.callIf cond w).l = s.l := by unfold State.callIf; split <;> simp
@[simp] theorem State.callIf_flags (cond : Cond) (w : Addr) : (s.callIf cond w).flags = s.flags := by unfold State.callIf; split <;> simp
@[simp] theorem State.callIf_inte (cond : Cond) (w : Addr) : (s.callIf cond w).inte = s.inte := by unfold State.callIf; split <;> simp
@[simp] theorem State.callIf_eiShadow (cond : Cond) (w : Addr) : (s.callIf cond w).eiShadow = s.eiShadow := by unfold State.callIf; split <;> simp
@[simp] theorem State.callIf_halted (cond : Cond) (w : Addr) : (s.callIf cond w).halted = s.halted := by unfold State.callIf; split <;> simp
@[simp] theorem State.callIf_fault (cond : Cond) (w : Addr) : (s.callIf cond w).fault = s.fault := by unfold State.callIf; split <;> simp
@[simp] theorem State.callIf_ioTrace (cond : Cond) (w : Addr) : (s.callIf cond w).ioTrace = s.ioTrace := by unfold State.callIf; split <;> simp
@[simp] theorem State.callIf_plat (cond : Cond) (w : Addr) : (s.callIf cond w).plat = s.plat := by unfold State.callIf; split <;> simp
@[simp] theorem State.callIf_env (cond : Cond) (w : Addr) : (s.callIf cond w).env = s.env := by unfold State.callIf; split <;> simp

@[simp] theorem State.returnIf_a (cond : Cond) : (s.returnIf cond).a = s.a := by unfold State.returnIf; split <;> simp
@[simp] theorem State.returnIf_b (cond : Cond) : (s.returnIf cond).b = s.b := by unfold State.returnIf; split <;> simp
@[simp] theorem State.returnIf_c (cond : Cond) : (s.returnIf cond).c = s.c := by unfold State.returnIf; split <;> simp
@[simp] theorem State.returnIf_d (cond : Cond) : (s.returnIf cond).d = s.d := by unfold State.returnIf; split <;> simp
@[simp] theorem State.returnIf_e (cond : Cond) : (s.returnIf cond).e = s.e := by unfold State.returnIf; split <;> simp
@[simp] theorem State.returnIf_h (cond : Cond) : (s.returnIf cond).h = s.h := by unfold State.returnIf; split <;> simp
@[simp] theorem State.returnIf_l (cond : Cond) : (s.returnIf cond).l = s.l := by unfold State.returnIf; split <;> simp
@[simp] theorem State.returnIf_flags (cond : Cond) : (s.returnIf cond).flags = s.flags := by unfold State.returnIf; split <;> simp
@[simp] theorem State.returnIf_inte (cond : Cond) : (s.returnIf cond).inte = s.inte := by unfold State.returnIf; split <;> simp
@[simp] theorem State.returnIf_eiShadow (cond : Cond) : (s.returnIf cond).eiShadow = s.eiShadow := by unfold State.returnIf; split <;> simp
@[simp] theorem State.returnIf_halted (cond : Cond) : (s.returnIf cond).halted = s.halted := by unfold State.returnIf; split <;> simp
@[simp] theorem State.returnIf_fault (cond : Cond) : (s.returnIf cond).fault = s.fault := by unfold State.returnIf; split <;> simp
@[simp] theorem State.returnIf_mem (cond : Cond) : (s.returnIf cond).mem = s.mem := by unfold State.returnIf; split <;> simp
@[simp] theorem State.returnIf_ioTrace (cond : Cond) : (s.returnIf cond).ioTrace = s.ioTrace := by unfold State.returnIf; split <;> simp
@[simp] theorem State.returnIf_plat (cond : Cond) : (s.returnIf cond).plat = s.plat := by unfold State.returnIf; split <;> simp

/-! ### What each operation writes -/

@[simp] theorem State.advance_pc (n : Addr) : (s.advance n).pc = s.pc + n := rfl
@[simp] theorem State.advance_eiShadow (n : Addr) : (s.advance n).eiShadow = false := rfl
@[simp] theorem State.setBc_b (w : Addr) : (s.setBc w).b = hiByte w := rfl
@[simp] theorem State.setBc_c (w : Addr) : (s.setBc w).c = loByte w := rfl
@[simp] theorem State.setDe_d (w : Addr) : (s.setDe w).d = hiByte w := rfl
@[simp] theorem State.setDe_e (w : Addr) : (s.setDe w).e = loByte w := rfl
@[simp] theorem State.setHl_h (w : Addr) : (s.setHl w).h = hiByte w := rfl
@[simp] theorem State.setHl_l (w : Addr) : (s.setHl w).l = loByte w := rfl
@[simp] theorem State.setPsw_a (w : Addr) : (s.setPsw w).a = hiByte w := rfl
@[simp] theorem State.setPsw_flags (w : Addr) : (s.setPsw w).flags = flagsOfByte (loByte w) := rfl
@[simp] theorem State.accumulate_a (r : AluResult) : (s.accumulate r).a = r.value := rfl
@[simp] theorem State.accumulate_flags (r : AluResult) : (s.accumulate r).flags = r.flags := rfl
@[simp] theorem State.push16_sp (w : Addr) : (s.push16 w).sp = s.sp - 2 := rfl
@[simp] theorem State.popped_sp : s.popped.sp = s.sp + 2 := rfl
@[simp] theorem State.callTo_sp (w : Addr) : (s.callTo w).sp = s.sp - 2 := rfl
@[simp] theorem State.callTo_pc (w : Addr) : (s.callTo w).pc = w := rfl
@[simp] theorem State.callTo_mem (w : Addr) : (s.callTo w).mem = (s.push16 s.pc).mem := rfl
@[simp] theorem State.returnFrom_sp : s.returnFrom.sp = s.sp + 2 := rfl
@[simp] theorem State.returnFrom_pc : s.returnFrom.pc = s.peek16 s.sp := rfl
@[simp] theorem State.raiseUndefined_fault (op : Byte) :
    (s.raiseUndefined op).fault = some (.undefinedOpcode op s.pc) := rfl
@[simp] theorem State.setOperand_same (r : Reg8) (v : Byte) (hr : r ≠ .m) : (s.setOperand r v).operand r = v := by
  cases r <;> simp_all [State.setOperand, State.operand]

/-- Writing an operand leaves every other register as it was. -/
theorem State.setOperand_other (r x : Reg8) (v : Byte) (hx : x ≠ .m) (hne : x ≠ r) :
    (s.setOperand r v).operand x = s.operand x := by
  cases r <;> cases x <;> simp_all [State.setOperand, State.operand]

/-- A restart: PC is pushed and control goes to 8 * n. -/
theorem State.restart_spec (n : BitVec 3) :
    (s.restart n).pc = BitVec.ofNat 16 (8 * n.toNat) ∧ (s.restart n).sp = s.sp - 2 ∧
      (s.restart n).mem = (s.push16 s.pc).mem := ⟨rfl, rfl, rfl⟩

/-- Acceptance of an interrupt: a restart with INTE, HALTED and EI_SHADOW cleared. -/
theorem State.acceptInterrupt_spec (n : BitVec 3) :
    (s.acceptInterrupt n).inte = false ∧ (s.acceptInterrupt n).halted = false ∧
      (s.acceptInterrupt n).eiShadow = false ∧ (s.acceptInterrupt n).pc = BitVec.ofNat 16 (8 * n.toNat) ∧
      (s.acceptInterrupt n).sp = s.sp - 2 := by
  simp [State.acceptInterrupt, State.restart, State.callTo]

/-- Reset. -/
theorem State.applyReset_spec :
    s.applyReset.pc = 0 ∧ s.applyReset.inte = false ∧ s.applyReset.halted = false ∧ s.applyReset.eiShadow = false :=
  ⟨rfl, rfl, rfl, rfl⟩

/-! ### Reading and storing bytes -/

/-- A byte read depends on memory, the platform and the environment alone. -/
theorem State.peek_congr {s t : State} (hm : t.mem = s.mem) (hp : t.plat = s.plat) (he : t.env = s.env) (addr : Addr) :
    t.peek addr = s.peek addr := by
  simp [State.peek, State.memKind, State.stored, hm, hp, he]

theorem State.memKind_congr {s t : State} (hp : t.plat = s.plat) (addr : Addr) : t.memKind addr = s.memKind addr := by
  simp [State.memKind, hp]

/-- What a read answers where something is fitted: the stored byte, and the state is as it was. -/
theorem State.peek_of_fitted {addr : Addr} (hk : s.memKind addr ≠ .none) :
    s.peek addr = s.stored addr ∧ s.touch addr = s := by
  cases hkind : s.memKind addr <;> simp_all [State.peek, State.touch]

/-- What a read answers where nothing is fitted: a free value, and the next one is fresh. -/
theorem State.peek_of_none {addr : Addr} (hk : s.memKind addr = .none) :
    s.peek addr = Config.floatingByte s.env.draws ∧ s.touch addr = s.draw := by
  simp [State.peek, State.touch, hk]

/-- The byte at the address of a store: the new one in RAM, the old one elsewhere. -/
theorem State.store_stored_same (addr : Addr) (v : Byte) :
    (s.store addr v).stored addr = if s.memKind addr = .ram then v else s.stored addr := by
  cases hkind : s.memKind addr <;> simp [State.store, State.stored, hkind]

/-- A store changes no other byte. -/
theorem State.store_stored_other {addr x : Addr} (v : Byte) (hx : x ≠ addr) :
    (s.store addr v).stored x = s.stored x := by
  have hne : x.toNat ≠ addr.toNat := fun e => hx (BitVec.eq_of_toNat_eq e)
  cases hkind : s.memKind addr <;> simp [State.store, State.stored, hkind, Memory.read_write_other _ _ hne]

/-- A store keeps memory in canonical form. -/
theorem State.store_keeps_wf (addr : Addr) (v : Byte) (hm : Memory.wf s.mem = true) :
    Memory.wf (s.store addr v).mem = true := by
  cases hkind : s.memKind addr <;> simp [State.store, hkind, hm, Memory.write_keeps_wf _ _ _ addr.isLt hm]

/-- A push keeps memory in canonical form. -/
theorem State.push16_keeps_wf (w : Addr) (hm : Memory.wf s.mem = true) : Memory.wf (s.push16 w).mem = true :=
  State.store_keeps_wf _ _ _ (State.store_keeps_wf _ _ _ hm)

@[simp] theorem State.store_memKind (addr x : Addr) (v : Byte) : (s.store addr v).memKind x = s.memKind x :=
  State.memKind_congr (by simp) x

/-- Two addresses one apart are not the same. -/
theorem addr_ne_succ (addr : Addr) : addr ≠ addr + 1 := by
  intro h
  have := congrArg BitVec.toNat h
  simp at this
  omega

theorem addr_pred_ne (addr : Addr) : addr - 1 ≠ addr - 2 := by
  intro h
  have := congrArg BitVec.toNat h
  simp at this
  omega

/-- A push puts the high byte at SP - 1 and the low byte at SP - 2, where there is RAM. -/
theorem State.push16_stored (w : Addr) :
    (s.push16 w).stored (s.sp - 1) = (if s.memKind (s.sp - 1) = .ram then hiByte w else s.stored (s.sp - 1)) ∧
      (s.push16 w).stored (s.sp - 2) = (if s.memKind (s.sp - 2) = .ram then loByte w else s.stored (s.sp - 2)) := by
  constructor
  · change ((s.store (s.sp - 1) (hiByte w)).store (s.sp - 2) (loByte w)).stored (s.sp - 1) = _
    rw [State.store_stored_other _ _ (addr_pred_ne s.sp), State.store_stored_same]
  · change ((s.store (s.sp - 1) (hiByte w)).store (s.sp - 2) (loByte w)).stored (s.sp - 2) = _
    rw [State.store_stored_same, State.store_stored_other _ _ (addr_pred_ne s.sp).symm, State.store_memKind]

/-- A 16-bit read where both bytes are fitted answers the two stored bytes and changes nothing. -/
theorem State.peek16_of_fitted {addr : Addr} (h1 : s.memKind addr ≠ .none) (h2 : s.memKind (addr + 1) ≠ .none) :
    s.peek16 addr = joinBytes (s.stored (addr + 1)) (s.stored addr) ∧ s.touch16 addr = s := by
  have e1 := State.peek_of_fitted s h1
  have e2 := State.peek_of_fitted s h2
  constructor
  · rw [State.peek16, e1.2, e2.1, e1.1]
  · rw [State.touch16, e1.2, e2.2]

/-- A push writes at SP - 1 and SP - 2 only. -/
theorem State.push16_stored_other {x : Addr} (w : Addr) (h1 : x ≠ s.sp - 1) (h2 : x ≠ s.sp - 2) :
    (s.push16 w).stored x = s.stored x := by
  have := State.store_stored_other (s.store (s.sp - 1) (hiByte w)) (loByte w) h2
  rw [State.store_stored_other s (hiByte w) h1] at this
  simpa [State.push16, State.stored] using this

/-! ### Bytes and words -/

theorem joinBytes_toNat (h l : Byte) : (joinBytes h l).toNat = 256 * h.toNat + l.toNat := by
  have e : (joinBytes h l).toNat = h.toNat <<< 8 ||| l.toNat := BitVec.toNat_append h l
  rw [e, ← Nat.shiftLeft_add_eq_or_of_lt l.isLt, Nat.shiftLeft_eq]
  omega

theorem hiByte_toNat (w : Addr) : (hiByte w).toNat = w.toNat / 256 := by
  have := w.isLt
  simp [hiByte, Nat.shiftRight_eq_div_pow]
  omega

theorem loByte_toNat (w : Addr) : (loByte w).toNat = w.toNat % 256 := by
  simp [loByte]

@[simp] theorem hiByte_joinBytes (h l : Byte) : hiByte (joinBytes h l) = h := by
  apply BitVec.eq_of_toNat_eq
  have := l.isLt
  rw [hiByte_toNat, joinBytes_toNat]
  omega

@[simp] theorem loByte_joinBytes (h l : Byte) : loByte (joinBytes h l) = l := by
  apply BitVec.eq_of_toNat_eq
  have := l.isLt
  rw [loByte_toNat, joinBytes_toNat]
  omega

@[simp] theorem joinBytes_hiByte_loByte (w : Addr) : joinBytes (hiByte w) (loByte w) = w := by
  apply BitVec.eq_of_toNat_eq
  rw [joinBytes_toNat, loByte_toNat, hiByte_toNat]
  omega

end Sys2Proof.Machine
end

