-- ==== Sys2Proof/Laws/PerInstr.lean ====
section
/-! SUPPORT. The one family of statements made per instruction: its encoding has the length of its opcode
(30_encoding.md R81, R86), one lemma per constructor. -/

namespace Sys2Proof.Laws.Length

/-- The encoding of an instruction is as long as its first byte says. -/
def Statement (i : Instr) : Prop := (encode i).length = opcodeLength ((encode i).headD 0)

theorem inPort (port : Byte) : Statement (.inPort port) := rfl
theorem outPort (port : Byte) : Statement (.outPort port) := rfl
theorem ei : Statement .ei := rfl
theorem di : Statement .di := rfl
theorem hlt : Statement .hlt := rfl
theorem rst (exp : BitVec 3) : Statement (.rst exp) := by
  revert exp
  unfold Statement
  decide
theorem cmc : Statement .cmc := rfl
theorem stc : Statement .stc := rfl
theorem nop : Statement .nop := rfl
theorem inr (dst : Reg8) : Statement (.inr dst) := by
  cases dst <;> rfl
theorem dcr (dst : Reg8) : Statement (.dcr dst) := by
  cases dst <;> rfl
theorem cma : Statement .cma := rfl
theorem daa : Statement .daa := rfl
theorem push (rp : StackPair) : Statement (.push rp) := by
  cases rp <;> rfl
theorem pushPsw : Statement .pushPsw := rfl
theorem pop (rp : StackPair) : Statement (.pop rp) := by
  cases rp <;> rfl
theorem popPsw : Statement .popPsw := rfl
theorem dad (rp : Pair) : Statement (.dad rp) := by
  cases rp <;> rfl
theorem inx (rp : Pair) : Statement (.inx rp) := by
  cases rp <;> rfl
theorem dcx (rp : Pair) : Statement (.dcx rp) := by
  cases rp <;> rfl
theorem xchg : Statement .xchg := rfl
theorem xthl : Statement .xthl := rfl
theorem sphl : Statement .sphl := rfl
theorem rlc : Statement .rlc := rfl
theorem rrc : Statement .rrc := rfl
theorem ral : Statement .ral := rfl
theorem rar : Statement .rar := rfl
theorem mov (dst : Reg8) (src : Reg8) : Statement (.mov dst src) := by
  cases dst <;> cases src <;> rfl
theorem stax (x : IndexPair) : Statement (.stax x) := by
  cases x <;> rfl
theorem ldax (x : IndexPair) : Statement (.ldax x) := by
  cases x <;> rfl
theorem add (src : Reg8) : Statement (.add src) := by
  cases src <;> rfl
theorem adc (src : Reg8) : Statement (.adc src) := by
  cases src <;> rfl
theorem sub (src : Reg8) : Statement (.sub src) := by
  cases src <;> rfl
theorem sbb (src : Reg8) : Statement (.sbb src) := by
  cases src <;> rfl
theorem ana (src : Reg8) : Statement (.ana src) := by
  cases src <;> rfl
theorem xra (src : Reg8) : Statement (.xra src) := by
  cases src <;> rfl
theorem ora (src : Reg8) : Statement (.ora src) := by
  cases src <;> rfl
theorem cmp (src : Reg8) : Statement (.cmp src) := by
  cases src <;> rfl
theorem sta (addr16 : Addr) : Statement (.sta addr16) := rfl
theorem lda (addr16 : Addr) : Statement (.lda addr16) := rfl
theorem shld (addr16 : Addr) : Statement (.shld addr16) := rfl
theorem lhld (addr16 : Addr) : Statement (.lhld addr16) := rfl
theorem lxi (rp : Pair) (data16 : Addr) : Statement (.lxi rp data16) := by
  cases rp <;> rfl
theorem mvi (dst : Reg8) (data8 : Byte) : Statement (.mvi dst data8) := by
  cases dst <;> rfl
theorem adi (data8 : Byte) : Statement (.adi data8) := rfl
theorem aci (data8 : Byte) : Statement (.aci data8) := rfl
theorem sui (data8 : Byte) : Statement (.sui data8) := rfl
theorem sbi (data8 : Byte) : Statement (.sbi data8) := rfl
theorem ani (data8 : Byte) : Statement (.ani data8) := rfl
theorem xri (data8 : Byte) : Statement (.xri data8) := rfl
theorem ori (data8 : Byte) : Statement (.ori data8) := rfl
theorem cpi (data8 : Byte) : Statement (.cpi data8) := rfl
theorem pchl : Statement .pchl := rfl
theorem jmp (addr16 : Addr) : Statement (.jmp addr16) := rfl
theorem jc (addr16 : Addr) : Statement (.jc addr16) := rfl
theorem jnc (addr16 : Addr) : Statement (.jnc addr16) := rfl
theorem jz (addr16 : Addr) : Statement (.jz addr16) := rfl
theorem jnz (addr16 : Addr) : Statement (.jnz addr16) := rfl
theorem jm (addr16 : Addr) : Statement (.jm addr16) := rfl
theorem jp (addr16 : Addr) : Statement (.jp addr16) := rfl
theorem jpe (addr16 : Addr) : Statement (.jpe addr16) := rfl
theorem jpo (addr16 : Addr) : Statement (.jpo addr16) := rfl
theorem call (addr16 : Addr) : Statement (.call addr16) := rfl
theorem cc (addr16 : Addr) : Statement (.cc addr16) := rfl
theorem cnc (addr16 : Addr) : Statement (.cnc addr16) := rfl
theorem cz (addr16 : Addr) : Statement (.cz addr16) := rfl
theorem cnz (addr16 : Addr) : Statement (.cnz addr16) := rfl
theorem cm (addr16 : Addr) : Statement (.cm addr16) := rfl
theorem cp (addr16 : Addr) : Statement (.cp addr16) := rfl
theorem cpe (addr16 : Addr) : Statement (.cpe addr16) := rfl
theorem cpo (addr16 : Addr) : Statement (.cpo addr16) := rfl
theorem ret : Statement .ret := rfl
theorem rc : Statement .rc := rfl
theorem rnc : Statement .rnc := rfl
theorem rz : Statement .rz := rfl
theorem rnz : Statement .rnz := rfl
theorem rm : Statement .rm := rfl
theorem rp : Statement .rp := rfl
theorem rpe : Statement .rpe := rfl
theorem rpo : Statement .rpo := rfl
theorem undefined08 : Statement .undefined08 := rfl
theorem undefined10 : Statement .undefined10 := rfl
theorem undefined18 : Statement .undefined18 := rfl
theorem undefined20 : Statement .undefined20 := rfl
theorem undefined28 : Statement .undefined28 := rfl
theorem undefined30 : Statement .undefined30 := rfl
theorem undefined38 : Statement .undefined38 := rfl
theorem undefinedCB : Statement .undefinedCB := rfl
theorem undefinedD9 : Statement .undefinedD9 := rfl
theorem undefinedDD : Statement .undefinedDD := rfl
theorem undefinedED : Statement .undefinedED := rfl
theorem undefinedFD : Statement .undefinedFD := rfl

end Sys2Proof.Laws.Length
end

