-- ==== Sys2Proof/Laws/Safety.lean ====
section
/-! SUPPORT. The small lemmas of the terms of the statements. -/

namespace Sys2Proof.Machine

variable {i : Instr} {s t u : State}

/-- A state with the same flags keeps every flag. -/
theorem keepsFlags_of_eq (h : t.flags = s.flags) (written : Flags) : KeepsFlags s t written := by
  simp [KeepsFlags, h]

/-- Where only CY differs, the flags outside CY are kept. -/
theorem keepsFlags_of_cy {v : Bool} (h : t.flags = { s.flags with cy := v }) :
    KeepsFlags s t { s := false, z := false, ac := false, p := false, cy := true } := by
  simp [KeepsFlags, h]

@[simp] theorem execTimes_zero (i : Instr) (s : State) : execTimes i 0 s = .next s := rfl

/-- One execution more, first. -/
theorem execTimes_succ (h : exec i s = .next t) (n : Nat) : execTimes i (n + 1) s = execTimes i n t := by
  simp only [execTimes, h]

end Sys2Proof.Machine
end

