-- ==== Sys2Proof/Laws/Step.lean ====
section
/-! SUPPORT. What the boundary, the fetch and the step do, each said once. -/

namespace Sys2Proof.Machine

/-- Passing a boundary changes only the model's own record of the environment. -/
theorem State.passBoundary_eq (s : State) : s.passBoundary = { s with env := s.passBoundary.env } := by
  unfold State.passBoundary
  split <;> rfl

/-- So does a memory read. -/
theorem State.touch_eq (s : State) (addr : Addr) : ∃ e, s.touch addr = { s with env := e } := by
  unfold State.touch
  split <;> exact ⟨_, rfl⟩

/-- Every opcode asks for one, two or three bytes. -/
theorem opcodeLength_cases : ∀ op : Byte, opcodeLength op = 1 ∨ opcodeLength op = 2 ∨ opcodeLength op = 3 := by
  decide +kernel

theorem State.fetch_one (s : State) (h : opcodeLength (s.peek s.pc) = 1) :
    s.fetch = (decodeBytes (s.peek s.pc) 0 0, s.touch s.pc) := by
  simp [State.fetch, h]

theorem State.fetch_two (s : State) (h : opcodeLength (s.peek s.pc) = 2) :
    s.fetch = (decodeBytes (s.peek s.pc) ((s.touch s.pc).peek (s.pc + 1)) 0, (s.touch s.pc).touch (s.pc + 1)) := by
  simp [State.fetch, h]

theorem State.fetch_three (s : State) (h : opcodeLength (s.peek s.pc) = 3) :
    s.fetch =
      (decodeBytes (s.peek s.pc) ((s.touch s.pc).peek (s.pc + 1)) (((s.touch s.pc).touch (s.pc + 1)).peek (s.pc + 2)),
        ((s.touch s.pc).touch (s.pc + 1)).touch (s.pc + 2)) := by
  simp [State.fetch, h]

/-- The fetch changes only the model's own record of the environment. -/
theorem State.fetch_keeps (s : State) : ∃ e, s.fetch.2 = { s with env := e } := by
  obtain ⟨e1, h1⟩ := s.touch_eq s.pc
  rcases opcodeLength_cases (s.peek s.pc) with h | h | h
  · rw [State.fetch_one _ h]
    exact ⟨e1, h1⟩
  · obtain ⟨e2, h2⟩ := State.touch_eq { s with env := e1 } (s.pc + 1)
    rw [State.fetch_two _ h, h1, h2]
    exact ⟨e2, rfl⟩
  · obtain ⟨e2, h2⟩ := State.touch_eq { s with env := e1 } (s.pc + 1)
    obtain ⟨e3, h3⟩ := State.touch_eq { s with env := e2 } (s.pc + 2)
    rw [State.fetch_three _ h, h1, h2, h3]
    exact ⟨e3, rfl⟩

/-- Everything a step that answers a next state can be: reset, an interrupt, the idle of a halted processor, or the next
instruction. -/
theorem step_cases {s t : State} (h : step s = .next t) :
    s.fault = none ∧
      ((s.boundary.reset = true ∧ t = s.passBoundary.applyReset) ∨
       (∃ n, s.boundary.reset = false ∧ s.acceptable = some n ∧ t = s.passBoundary.acceptInterrupt n) ∨
       (s.boundary.reset = false ∧ s.acceptable = none ∧ s.halted = true ∧ t = s.passBoundary) ∨
       (s.boundary.reset = false ∧ s.acceptable = none ∧ s.halted = false ∧ runNext s.passBoundary = .next t)) := by
  unfold step at h
  split at h
  · cases h
  next hf =>
  refine ⟨hf, ?_⟩
  split at h
  next hr => exact .inl ⟨hr, by cases h; rfl⟩
  next hr =>
  have hr : s.boundary.reset = false := by simpa using hr
  split at h
  next n hn => exact .inr (.inl ⟨n, hr, hn, by cases h; rfl⟩)
  next hn =>
  split at h
  next hh => exact .inr (.inr (.inl ⟨hr, hn, hh, by cases h; rfl⟩))
  next hh => exact .inr (.inr (.inr ⟨hr, hn, by simpa using hh, h⟩))

end Sys2Proof.Machine
end

