-- ==== Sys2Proof/Tests/Slice0.lean ====
section
/-! SUPPORT. Small tests. Expected values are the worked examples and tables of spec/ (the rule is named in each comment);
then a witness for each statement of Obligations.lean that has hypotheses. -/

namespace Sys2Proof.Tests

open Sys2Proof.Machine

/-- A view of the state an outcome goes on with. -/
def after {α : Type} (r : Result) (view : State → α) : Option α :=
  match r with
  | .next t => some (view t)
  | _ => none

/-- Flags written as S Z AC P CY. -/
def bits (s z ac p cy : Nat) : Flags := { s := s == 1, z := z == 1, ac := ac == 1, p := p == 1, cy := cy == 1 }

/-- The reset state with every flag clear, the start of most tests. -/
def base : State := { State.reset with flags := bits 0 0 0 0 0 }

/-! ### WellFormed: the one check, and terms it accepts -/

theorem test_mov_m_m_is_ill_formed : (Instr.mov .m .m).wf = false := by decide
theorem test_mov_with_one_m_is_well_formed : (Instr.mov .m .a).wf = true ∧ (Instr.mov .a .m).wf = true := by decide

/-! ### Decoding: the map of 30_encoding.md R93, row by row, with byte 2 = 0x34 and byte 3 = 0x12 -/

theorem test_grid_row_0 :
    (List.range 16).map (fun n => decodeBytes (BitVec.ofNat 8 (16 * 0 + n)) 0x34 0x12) =
      [.nop, .lxi .b 0x1234, .stax .b, .inx .b, .inr .b, .dcr .b, .mvi .b 0x34, .rlc, .undefined08,
       .dad .b, .ldax .b, .dcx .b, .inr .c, .dcr .c, .mvi .c 0x34, .rrc] := by
  decide

theorem test_grid_row_1 :
    (List.range 16).map (fun n => decodeBytes (BitVec.ofNat 8 (16 * 1 + n)) 0x34 0x12) =
      [.undefined10, .lxi .d 0x1234, .stax .d, .inx .d, .inr .d, .dcr .d, .mvi .d 0x34, .ral,
       .undefined18, .dad .d, .ldax .d, .dcx .d, .inr .e, .dcr .e, .mvi .e 0x34, .rar] := by
  decide

theorem test_grid_row_2 :
    (List.range 16).map (fun n => decodeBytes (BitVec.ofNat 8 (16 * 2 + n)) 0x34 0x12) =
      [.undefined20, .lxi .h 0x1234, .shld 0x1234, .inx .h, .inr .h, .dcr .h, .mvi .h 0x34, .daa,
       .undefined28, .dad .h, .lhld 0x1234, .dcx .h, .inr .l, .dcr .l, .mvi .l 0x34, .cma] := by
  decide

theorem test_grid_row_3 :
    (List.range 16).map (fun n => decodeBytes (BitVec.ofNat 8 (16 * 3 + n)) 0x34 0x12) =
      [.undefined30, .lxi .sp 0x1234, .sta 0x1234, .inx .sp, .inr .m, .dcr .m, .mvi .m 0x34, .stc,
       .undefined38, .dad .sp, .lda 0x1234, .dcx .sp, .inr .a, .dcr .a, .mvi .a 0x34, .cmc] := by
  decide

theorem test_grid_row_4 :
    (List.range 16).map (fun n => decodeBytes (BitVec.ofNat 8 (16 * 4 + n)) 0x34 0x12) =
      [.mov .b .b, .mov .b .c, .mov .b .d, .mov .b .e, .mov .b .h, .mov .b .l, .mov .b .m, .mov .b .a,
       .mov .c .b, .mov .c .c, .mov .c .d, .mov .c .e, .mov .c .h, .mov .c .l, .mov .c .m, .mov .c .a] := by
  decide

theorem test_grid_row_5 :
    (List.range 16).map (fun n => decodeBytes (BitVec.ofNat 8 (16 * 5 + n)) 0x34 0x12) =
      [.mov .d .b, .mov .d .c, .mov .d .d, .mov .d .e, .mov .d .h, .mov .d .l, .mov .d .m, .mov .d .a,
       .mov .e .b, .mov .e .c, .mov .e .d, .mov .e .e, .mov .e .h, .mov .e .l, .mov .e .m, .mov .e .a] := by
  decide

theorem test_grid_row_6 :
    (List.range 16).map (fun n => decodeBytes (BitVec.ofNat 8 (16 * 6 + n)) 0x34 0x12) =
      [.mov .h .b, .mov .h .c, .mov .h .d, .mov .h .e, .mov .h .h, .mov .h .l, .mov .h .m, .mov .h .a,
       .mov .l .b, .mov .l .c, .mov .l .d, .mov .l .e, .mov .l .h, .mov .l .l, .mov .l .m, .mov .l .a] := by
  decide

theorem test_grid_row_7 :
    (List.range 16).map (fun n => decodeBytes (BitVec.ofNat 8 (16 * 7 + n)) 0x34 0x12) =
      [.mov .m .b, .mov .m .c, .mov .m .d, .mov .m .e, .mov .m .h, .mov .m .l, .hlt, .mov .m .a,
       .mov .a .b, .mov .a .c, .mov .a .d, .mov .a .e, .mov .a .h, .mov .a .l, .mov .a .m, .mov .a .a] := by
  decide

theorem test_grid_row_8 :
    (List.range 16).map (fun n => decodeBytes (BitVec.ofNat 8 (16 * 8 + n)) 0x34 0x12) =
      [.add .b, .add .c, .add .d, .add .e, .add .h, .add .l, .add .m, .add .a, .adc .b, .adc .c,
       .adc .d, .adc .e, .adc .h, .adc .l, .adc .m, .adc .a] := by
  decide

theorem test_grid_row_9 :
    (List.range 16).map (fun n => decodeBytes (BitVec.ofNat 8 (16 * 9 + n)) 0x34 0x12) =
      [.sub .b, .sub .c, .sub .d, .sub .e, .sub .h, .sub .l, .sub .m, .sub .a, .sbb .b, .sbb .c,
       .sbb .d, .sbb .e, .sbb .h, .sbb .l, .sbb .m, .sbb .a] := by
  decide

theorem test_grid_row_A :
    (List.range 16).map (fun n => decodeBytes (BitVec.ofNat 8 (16 * 10 + n)) 0x34 0x12) =
      [.ana .b, .ana .c, .ana .d, .ana .e, .ana .h, .ana .l, .ana .m, .ana .a, .xra .b, .xra .c,
       .xra .d, .xra .e, .xra .h, .xra .l, .xra .m, .xra .a] := by
  decide

theorem test_grid_row_B :
    (List.range 16).map (fun n => decodeBytes (BitVec.ofNat 8 (16 * 11 + n)) 0x34 0x12) =
      [.ora .b, .ora .c, .ora .d, .ora .e, .ora .h, .ora .l, .ora .m, .ora .a, .cmp .b, .cmp .c,
       .cmp .d, .cmp .e, .cmp .h, .cmp .l, .cmp .m, .cmp .a] := by
  decide

theorem test_grid_row_C :
    (List.range 16).map (fun n => decodeBytes (BitVec.ofNat 8 (16 * 12 + n)) 0x34 0x12) =
      [.rnz, .pop .b, .jnz 0x1234, .jmp 0x1234, .cnz 0x1234, .push .b, .adi 0x34, .rst 0, .rz, .ret,
       .jz 0x1234, .undefinedCB, .cz 0x1234, .call 0x1234, .aci 0x34, .rst 1] := by
  decide

theorem test_grid_row_D :
    (List.range 16).map (fun n => decodeBytes (BitVec.ofNat 8 (16 * 13 + n)) 0x34 0x12) =
      [.rnc, .pop .d, .jnc 0x1234, .outPort 0x34, .cnc 0x1234, .push .d, .sui 0x34, .rst 2, .rc,
       .undefinedD9, .jc 0x1234, .inPort 0x34, .cc 0x1234, .undefinedDD, .sbi 0x34, .rst 3] := by
  decide

theorem test_grid_row_E :
    (List.range 16).map (fun n => decodeBytes (BitVec.ofNat 8 (16 * 14 + n)) 0x34 0x12) =
      [.rpo, .pop .h, .jpo 0x1234, .xthl, .cpo 0x1234, .push .h, .ani 0x34, .rst 4, .rpe, .pchl,
       .jpe 0x1234, .xchg, .cpe 0x1234, .undefinedED, .xri 0x34, .rst 5] := by
  decide

theorem test_grid_row_F :
    (List.range 16).map (fun n => decodeBytes (BitVec.ofNat 8 (16 * 15 + n)) 0x34 0x12) =
      [.rp, .popPsw, .jp 0x1234, .di, .cp 0x1234, .pushPsw, .ori 0x34, .rst 6, .rm, .sphl, .jm 0x1234,
       .ei, .cm 0x1234, .undefinedFD, .cpi 0x34, .rst 7] := by
  decide

/-- A list that ends inside an instruction is refused by name, and so is an empty one. -/
theorem test_decode_refuses_what_is_cut :
    decode [] = .error .noBytes ∧ decode [0xC3, 0x00] = .error (.truncated 0xC3) ∧ decode [0x3E] = .error (.truncated 0x3E) :=
  ⟨rfl, rfl, rfl⟩

/-- The host's question, on a one-, a two- and a three-byte word (R88: `C3 34 12` is JMP 0x1234). -/
theorem test_decode_table_word :
    decodeTableWord 8 0x76 = some .hlt ∧ decodeTableWord 16 0x10DB = some (.inPort 0x10) ∧
      decodeTableWord 24 0x1234C3 = some (.jmp 0x1234) ∧ decodeTableWord 8 0xC3 = some (.jmp 0) := by
  decide

/-! ### Command instructions: the examples of R110 to R118 -/

theorem test_in :
    after (exec (.inPort 0x10) { base with pc := 0x0100, env := { base.env with inputs := [0x41] } })
      (fun t => (t.a, t.pc, t.ioTrace)) = some (0x41, 0x0102, [.input 0x10 0x41]) := by decide
theorem test_out :
    after (exec (.outPort 0x01) { base with a := 0x55 }) (fun t => (t.ioTrace, t.pc, t.a)) =
      some ([.output 0x01 0x55], 0x0002, 0x55) := by decide
theorem test_ei : after (exec .ei base) (fun t => (t.inte, t.eiShadow, t.pc)) = some (true, true, 0x0001) := by decide
theorem test_di :
    after (exec .di { base with inte := true }) (fun t => (t.inte, t.eiShadow, t.pc)) = some (false, false, 0x0001) := by decide
theorem test_hlt :
    after (exec .hlt { base with pc := 0x0010 }) (fun t => (t.halted, t.pc)) = some (true, 0x0011) := by decide
theorem test_rst :
    after (exec (.rst 5) { base with pc := 0x1234, sp := 0x2000, inte := true })
      (fun t => (t.stored 0x1FFF, t.stored 0x1FFE, t.sp, t.pc, t.inte)) = some (0x12, 0x35, 0x1FFE, 0x0028, true) := by decide
theorem test_cmc : after (exec .cmc { base with flags := bits 1 0 1 0 1 }) (fun t => t.flags) = some (bits 1 0 1 0 0) := by decide
theorem test_stc : after (exec .stc { base with flags := bits 0 1 0 1 0 }) (fun t => t.flags) = some (bits 0 1 0 1 1) := by decide
theorem test_nop : exec .nop base = .next { base with pc := 0x0001 } := rfl

/-! ### Single register instructions: R130 to R133 -/

theorem test_inr :
    after (exec (.inr .b) { base with b := 0x0F, flags := bits 1 1 0 1 1 }) (fun t => (t.b, t.flags)) =
      some (0x10, bits 0 0 1 0 1) := by decide
theorem test_inr_wraps :
    after (exec (.inr .a) { base with a := 0xFF }) (fun t => (t.a, t.flags)) = some (0x00, bits 0 1 1 1 0) := by decide
theorem test_dcr :
    after (exec (.dcr .c) { base with c := 0x01, flags := bits 1 0 0 0 1 }) (fun t => (t.c, t.flags)) =
      some (0x00, bits 0 1 1 1 1) := by decide
theorem test_dcr_wraps :
    after (exec (.dcr .d) { base with d := 0x00 }) (fun t => (t.d, t.flags)) = some (0xFF, bits 1 0 0 1 0) := by decide
theorem test_cma :
    after (exec .cma { base with a := 0x51, flags := bits 1 1 1 1 1 }) (fun t => (t.a, t.flags)) =
      some (0xAE, bits 1 1 1 1 1) := by decide
theorem test_daa :
    after (exec .daa { base with a := 0x7D }) (fun t => (t.a, t.flags)) = some (0x83, bits 1 0 1 0 0) := by decide
theorem test_daa_both_corrections :
    after (exec .daa { base with a := 0x9A }) (fun t => (t.a, t.flags)) = some (0x00, bits 0 1 1 1 1) := by decide

/-! ### Register pair instructions: R140 to R149 -/

theorem test_push :
    after (exec (.push .d) { base with d := 0x8F, e := 0x9D, sp := 0x3A2C })
      (fun t => (t.stored 0x3A2B, t.stored 0x3A2A, t.sp)) = some (0x8F, 0x9D, 0x3A2A) := by decide
theorem test_push_psw :
    after (exec .pushPsw { base with a := 0x1F, flags := bits 0 1 0 1 1, sp := 0x502A })
      (fun t => (t.stored 0x5029, t.stored 0x5028, t.sp)) = some (0x1F, 0x47, 0x5028) := by decide
theorem test_pop :
    after (exec (.pop .h) { base with mem := [(0x1239, 0x3D), (0x123A, 0x93)], sp := 0x1239 })
      (fun t => (t.l, t.h, t.sp)) = some (0x3D, 0x93, 0x123B) := by decide
theorem test_pop_psw :
    after (exec .popPsw { base with mem := [(0x2C00, 0xC3), (0x2C01, 0xFF)], sp := 0x2C00 })
      (fun t => (t.a, t.flags, t.sp)) = some (0xFF, bits 1 1 0 0 1, 0x2C02) := by decide
theorem test_dad :
    after (exec (.dad .b) { base with b := 0x33, c := 0x9F, h := 0xA1, l := 0x7B }) (fun t => (t.hl, t.flags)) =
      some (0xD51A, bits 0 0 0 0 0) := by decide
theorem test_dad_carry :
    after (exec (.dad .b) { base with b := 0x00, c := 0x01, h := 0xFF, l := 0xFF }) (fun t => (t.hl, t.flags)) =
      some (0x0000, bits 0 0 0 0 1) := by decide
theorem test_inx :
    after (exec (.inx .sp) { base with sp := 0xFFFF }) (fun t => (t.sp, t.flags)) = some (0x0000, bits 0 0 0 0 0) := by decide
theorem test_dcx :
    after (exec (.dcx .h) { base with h := 0x98, l := 0x00 }) (fun t => (t.h, t.l)) = some (0x97, 0xFF) := by decide
theorem test_xchg :
    after (exec .xchg { base with h := 0x00, l := 0xFF, d := 0x33, e := 0x55 }) (fun t => (t.h, t.l, t.d, t.e)) =
      some (0x33, 0x55, 0x00, 0xFF) := by decide
theorem test_xthl :
    after (exec .xthl { base with sp := 0x10AD, h := 0x0B, l := 0x3C, mem := [(0x10AD, 0xF0), (0x10AE, 0x0D)] })
      (fun t => (t.h, t.l, t.stored 0x10AD, t.stored 0x10AE, t.sp)) = some (0x0D, 0xF0, 0x3C, 0x0B, 0x10AD) := by decide
theorem test_sphl : after (exec .sphl { base with h := 0x50, l := 0x6C }) (fun t => t.sp) = some 0x506C := by decide

/-! ### Rotates: R160 to R163 -/

theorem test_rlc : after (exec .rlc { base with a := 0xF2 }) (fun t => (t.a, t.flags)) = some (0xE5, bits 0 0 0 0 1) := by decide
theorem test_rrc : after (exec .rrc { base with a := 0xF2 }) (fun t => (t.a, t.flags)) = some (0x79, bits 0 0 0 0 0) := by decide
theorem test_ral : after (exec .ral { base with a := 0xB5 }) (fun t => (t.a, t.flags)) = some (0x6A, bits 0 0 0 0 1) := by decide
theorem test_rar :
    after (exec .rar { base with a := 0x6A, flags := bits 0 0 0 0 1 }) (fun t => (t.a, t.flags)) =
      some (0xB5, bits 0 0 0 0 0) := by decide

/-! ### Data transfer: R170 to R172 -/

theorem test_mov_from_memory :
    after (exec (.mov .c .m) { base with h := 0x2B, l := 0xE9, mem := [(0x2BE9, 0x77)] }) (fun t => t.c) = some 0x77 := by decide
theorem test_mov_to_memory :
    after (exec (.mov .m .a) { base with a := 0x1A, h := 0x20, l := 0x00 }) (fun t => t.stored 0x2000) = some 0x1A := by decide
theorem test_stax :
    after (exec (.stax .b) { base with a := 0x5A, b := 0x3F, c := 0x16 }) (fun t => t.stored 0x3F16) = some 0x5A := by decide
theorem test_ldax :
    after (exec (.ldax .d) { base with d := 0x93, e := 0x8B, mem := [(0x938B, 0xC4)] }) (fun t => t.a) = some 0xC4 := by decide

/-! ### Accumulator: R180 to R187 -/

theorem test_add :
    after (exec (.add .d) { base with a := 0x6C, d := 0x2E }) (fun t => (t.a, t.flags)) = some (0x9A, bits 1 0 1 1 0) := by decide
theorem test_adc :
    after (exec (.adc .c) { base with a := 0x42, c := 0x3D, flags := bits 0 0 0 0 1 }) (fun t => (t.a, t.flags)) =
      some (0x80, bits 1 0 1 0 0) := by decide
theorem test_sub : after (exec (.sub .a) { base with a := 0x3E }) (fun t => (t.a, t.flags)) = some (0x00, bits 0 1 1 1 0) := by decide
theorem test_sub_borrows :
    after (exec (.sub .b) { base with a := 0x00, b := 0x01 }) (fun t => (t.a, t.flags)) = some (0xFF, bits 1 0 0 1 1) := by decide
theorem test_sbb :
    after (exec (.sbb .l) { base with a := 0x04, l := 0x02, flags := bits 0 0 0 0 1 }) (fun t => (t.a, t.flags)) =
      some (0x01, bits 0 0 1 0 0) := by decide
theorem test_ana :
    after (exec (.ana .c) { base with a := 0xFC, c := 0x0F }) (fun t => (t.a, t.flags)) = some (0x0C, bits 0 0 1 1 0) := by decide
theorem test_xra :
    after (exec (.xra .b) { base with a := 0x5C, b := 0x78 }) (fun t => (t.a, t.flags)) = some (0x24, bits 0 0 0 1 0) := by decide
theorem test_ora :
    after (exec (.ora .c) { base with a := 0x33, c := 0x0F }) (fun t => (t.a, t.flags)) = some (0x3F, bits 0 0 0 1 0) := by decide
theorem test_cmp :
    after (exec (.cmp .e) { base with a := 0x0A, e := 0x05 }) (fun t => (t.a, t.flags)) = some (0x0A, bits 0 0 1 1 0) := by decide
theorem test_cmp_below :
    after (exec (.cmp .e) { base with a := 0x02, e := 0x05 }) (fun t => (t.a, t.flags)) = some (0x02, bits 1 0 0 0 1) := by decide

/-! ### Direct addressing: R200 to R203 -/

theorem test_sta : after (exec (.sta 0x05B3) { base with a := 0x9F }) (fun t => (t.stored 0x05B3, t.pc)) = some (0x9F, 0x0003) := by decide
theorem test_lda : after (exec (.lda 0x0300) { base with mem := [(0x0300, 0x2C)] }) (fun t => t.a) = some 0x2C := by decide
theorem test_shld :
    after (exec (.shld 0x010A) { base with h := 0xAE, l := 0x29 }) (fun t => (t.stored 0x010A, t.stored 0x010B)) =
      some (0x29, 0xAE) := by decide
theorem test_shld_wraps :
    after (exec (.shld 0xFFFF) { base with h := 0xAE, l := 0x29 }) (fun t => (t.stored 0xFFFF, t.stored 0x0000)) =
      some (0x29, 0xAE) := by decide
theorem test_lhld :
    after (exec (.lhld 0x025B) { base with mem := [(0x025B, 0xFF), (0x025C, 0x03)] }) (fun t => (t.l, t.h)) =
      some (0xFF, 0x03) := by decide

/-! ### Immediate: R210 to R219 -/

theorem test_lxi : after (exec (.lxi .h 0x0103) base) (fun t => (t.h, t.l, t.pc)) = some (0x01, 0x03, 0x0003) := by decide
theorem test_lxi_sp : after (exec (.lxi .sp 0x2400) base) (fun t => t.sp) = some 0x2400 := by decide
theorem test_mvi : after (exec (.mvi .h 0x3C) base) (fun t => (t.h, t.pc)) = some (0x3C, 0x0002) := by decide
theorem test_mvi_m :
    after (exec (.mvi .m 0xFF) { base with h := 0x3C, l := 0xF4 }) (fun t => t.stored 0x3CF4) = some 0xFF := by decide
theorem test_adi : after (exec (.adi 0x42) { base with a := 0x14 }) (fun t => (t.a, t.flags)) = some (0x56, bits 0 0 0 1 0) := by decide
theorem test_aci :
    after (exec (.aci 0xBE) { base with a := 0x56, flags := bits 0 0 0 0 1 }) (fun t => (t.a, t.flags)) =
      some (0x15, bits 0 0 1 0 1) := by decide
theorem test_sui : after (exec (.sui 0x01) { base with a := 0x00 }) (fun t => (t.a, t.flags)) = some (0xFF, bits 1 0 0 1 1) := by decide
theorem test_sbi :
    after (exec (.sbi 0x01) { base with a := 0x00, flags := bits 0 0 0 0 1 }) (fun t => (t.a, t.flags)) =
      some (0xFE, bits 1 0 0 0 1) := by decide
theorem test_ani : after (exec (.ani 0x0F) { base with a := 0x3A }) (fun t => (t.a, t.flags)) = some (0x0A, bits 0 0 1 1 0) := by decide
theorem test_xri : after (exec (.xri 0x81) { base with a := 0x3B }) (fun t => (t.a, t.flags)) = some (0xBA, bits 1 0 0 0 0) := by decide
theorem test_ori : after (exec (.ori 0x0F) { base with a := 0xB5 }) (fun t => (t.a, t.flags)) = some (0xBF, bits 1 0 0 0 0) := by decide
theorem test_cpi : after (exec (.cpi 0x40) { base with a := 0x4A }) (fun t => (t.a, t.flags)) = some (0x4A, bits 0 0 1 1 0) := by decide

/-! ### Branching: R230 to R258 (taken and not taken) -/

theorem test_pchl : after (exec .pchl { base with h := 0x41, l := 0x3E }) (fun t => t.pc) = some 0x413E := by decide
theorem test_jmp : after (exec (.jmp 0x3E00) base) (fun t => (t.pc, t.sp)) = some (0x3E00, 0x8899) := by decide

/-- The state of the examples of the conditional branches. -/
def branching (pc : Addr) (f : Flags) : State :=
  { base with pc := pc, flags := f, sp := 0x23FE, mem := [(0x23FE, 0x03), (0x23FF, 0x01)] }

theorem test_jc :
    after (exec (.jc 0x0250) (branching 0x0100 (bits 0 0 0 0 1))) State.pc = some 0x0250 ∧
      after (exec (.jc 0x0250) (branching 0x0100 (bits 1 1 1 1 0))) State.pc = some 0x0103 := by decide
theorem test_jnc :
    after (exec (.jnc 0x0250) (branching 0x0100 (bits 1 1 1 1 0))) State.pc = some 0x0250 ∧
      after (exec (.jnc 0x0250) (branching 0x0100 (bits 0 0 0 0 1))) State.pc = some 0x0103 := by decide
theorem test_jz :
    after (exec (.jz 0x1000) (branching 0x0200 (bits 0 1 0 0 0))) State.pc = some 0x1000 ∧
      after (exec (.jz 0x1000) (branching 0x0200 (bits 1 0 1 1 1))) State.pc = some 0x0203 := by decide
theorem test_jnz :
    after (exec (.jnz 0x0005) (branching 0x0008 (bits 1 0 1 1 1))) State.pc = some 0x0005 ∧
      after (exec (.jnz 0x0005) (branching 0x0008 (bits 0 1 0 0 0))) State.pc = some 0x000B := by decide
theorem test_jm :
    after (exec (.jm 0x1234) (branching 0x0000 (bits 1 0 0 0 0))) State.pc = some 0x1234 ∧
      after (exec (.jm 0x1234) (branching 0x0000 (bits 0 1 1 1 1))) State.pc = some 0x0003 := by decide
theorem test_jp :
    after (exec (.jp 0x1234) (branching 0x0000 (bits 0 1 1 1 1))) State.pc = some 0x1234 ∧
      after (exec (.jp 0x1234) (branching 0x0000 (bits 1 0 0 0 0))) State.pc = some 0x0003 := by decide
theorem test_jpe :
    after (exec (.jpe 0x8000) (branching 0x0040 (bits 0 0 0 1 0))) State.pc = some 0x8000 ∧
      after (exec (.jpe 0x8000) (branching 0x0040 (bits 1 1 1 0 1))) State.pc = some 0x0043 := by decide
theorem test_jpo :
    after (exec (.jpo 0x8000) (branching 0x0040 (bits 1 1 1 0 1))) State.pc = some 0x8000 ∧
      after (exec (.jpo 0x8000) (branching 0x0040 (bits 0 0 0 1 0))) State.pc = some 0x0043 := by decide

/-- What the examples of the calls show. -/
def callView (t : State) : Byte × Byte × Addr × Addr := (t.stored 0x23FF, t.stored 0x23FE, t.sp, t.pc)

/-- The state of those examples, with memory clear. -/
def calling (f : Flags) : State := { base with pc := 0x0100, flags := f, sp := 0x2400 }

theorem test_call :
    after (exec (.call 0x3000) (calling (bits 0 0 0 0 0))) callView = some (0x01, 0x03, 0x23FE, 0x3000) := by decide
theorem test_cc :
    after (exec (.cc 0x3000) (calling (bits 0 0 0 0 1))) callView = some (0x01, 0x03, 0x23FE, 0x3000) ∧
      after (exec (.cc 0x3000) (calling (bits 1 1 1 1 0))) callView = some (0x00, 0x00, 0x2400, 0x0103) := by decide
theorem test_cnc :
    after (exec (.cnc 0x3000) (calling (bits 1 1 1 1 0))) callView = some (0x01, 0x03, 0x23FE, 0x3000) ∧
      after (exec (.cnc 0x3000) (calling (bits 0 0 0 0 1))) callView = some (0x00, 0x00, 0x2400, 0x0103) := by decide
theorem test_cz :
    after (exec (.cz 0x3000) (calling (bits 0 1 0 0 0))) callView = some (0x01, 0x03, 0x23FE, 0x3000) ∧
      after (exec (.cz 0x3000) (calling (bits 1 0 1 1 1))) callView = some (0x00, 0x00, 0x2400, 0x0103) := by decide
theorem test_cnz :
    after (exec (.cnz 0x3000) (calling (bits 1 0 1 1 1))) callView = some (0x01, 0x03, 0x23FE, 0x3000) ∧
      after (exec (.cnz 0x3000) (calling (bits 0 1 0 0 0))) callView = some (0x00, 0x00, 0x2400, 0x0103) := by decide
theorem test_cm :
    after (exec (.cm 0x3000) (calling (bits 1 0 0 0 0))) callView = some (0x01, 0x03, 0x23FE, 0x3000) ∧
      after (exec (.cm 0x3000) (calling (bits 0 1 1 1 1))) callView = some (0x00, 0x00, 0x2400, 0x0103) := by decide
theorem test_cp :
    after (exec (.cp 0x3000) (calling (bits 0 1 1 1 1))) callView = some (0x01, 0x03, 0x23FE, 0x3000) ∧
      after (exec (.cp 0x3000) (calling (bits 1 0 0 0 0))) callView = some (0x00, 0x00, 0x2400, 0x0103) := by decide
theorem test_cpe :
    after (exec (.cpe 0x3000) (calling (bits 0 0 0 1 0))) callView = some (0x01, 0x03, 0x23FE, 0x3000) ∧
      after (exec (.cpe 0x3000) (calling (bits 1 1 1 0 1))) callView = some (0x00, 0x00, 0x2400, 0x0103) := by decide
theorem test_cpo :
    after (exec (.cpo 0x3000) (calling (bits 1 1 1 0 1))) callView = some (0x01, 0x03, 0x23FE, 0x3000) ∧
      after (exec (.cpo 0x3000) (calling (bits 0 0 0 1 0))) callView = some (0x00, 0x00, 0x2400, 0x0103) := by decide

/-- What the examples of the returns show. -/
def returnView (t : State) : Addr × Addr := (t.pc, t.sp)

theorem test_ret : after (exec .ret (branching 0x3000 (bits 0 0 0 0 0))) returnView = some (0x0103, 0x2400) := by decide
theorem test_rc :
    after (exec .rc (branching 0x3000 (bits 0 0 0 0 1))) returnView = some (0x0103, 0x2400) ∧
      after (exec .rc (branching 0x3000 (bits 1 1 1 1 0))) returnView = some (0x3001, 0x23FE) := by decide
theorem test_rnc :
    after (exec .rnc (branching 0x3000 (bits 1 1 1 1 0))) returnView = some (0x0103, 0x2400) ∧
      after (exec .rnc (branching 0x3000 (bits 0 0 0 0 1))) returnView = some (0x3001, 0x23FE) := by decide
theorem test_rz :
    after (exec .rz (branching 0x3000 (bits 0 1 0 0 0))) returnView = some (0x0103, 0x2400) ∧
      after (exec .rz (branching 0x3000 (bits 1 0 1 1 1))) returnView = some (0x3001, 0x23FE) := by decide
theorem test_rnz :
    after (exec .rnz (branching 0x3000 (bits 1 0 1 1 1))) returnView = some (0x0103, 0x2400) ∧
      after (exec .rnz (branching 0x3000 (bits 0 1 0 0 0))) returnView = some (0x3001, 0x23FE) := by decide
theorem test_rm :
    after (exec .rm (branching 0x3000 (bits 1 0 0 0 0))) returnView = some (0x0103, 0x2400) ∧
      after (exec .rm (branching 0x3000 (bits 0 1 1 1 1))) returnView = some (0x3001, 0x23FE) := by decide
theorem test_rp :
    after (exec .rp (branching 0x3000 (bits 0 1 1 1 1))) returnView = some (0x0103, 0x2400) ∧
      after (exec .rp (branching 0x3000 (bits 1 0 0 0 0))) returnView = some (0x3001, 0x23FE) := by decide
theorem test_rpe :
    after (exec .rpe (branching 0x3000 (bits 0 0 0 1 0))) returnView = some (0x0103, 0x2400) ∧
      after (exec .rpe (branching 0x3000 (bits 1 1 1 0 1))) returnView = some (0x3001, 0x23FE) := by decide
theorem test_rpo :
    after (exec .rpo (branching 0x3000 (bits 1 1 1 0 1))) returnView = some (0x0103, 0x2400) ∧
      after (exec .rpo (branching 0x3000 (bits 0 0 0 1 0))) returnView = some (0x3001, 0x23FE) := by decide

/-! ### Undefined opcodes, steps, interrupts, reset -/

/-- Each of the twelve bytes raises the fault with its own byte and address (R270). -/
theorem test_undefined_bytes_fault :
    undefinedRows.map (fun row => after (exec row.2 { base with pc := 0x0042 }) (fun t => (t.fault, t.pc))) =
      undefinedRows.map (fun row => some (some (.undefinedOpcode row.1 0x0042), 0x0042)) := by decide

/-- The reset state with the aliases on. -/
def aliased : State := { base with plat := { base.plat with undocAliases := true } }

/-- With the aliases on, CB is JMP and DD is CALL, with the address in the next two bytes (R96). -/
theorem test_aliases :
    after (exec .undefinedCB { aliased with mem := [(1, 0x34), (2, 0x12)] }) State.pc = some 0x1234 ∧
      after (exec .undefinedDD { aliased with sp := 0x2400, mem := [(1, 0x34), (2, 0x12)] })
        (fun t => (t.pc, t.sp, t.stored 0x23FE)) = some (0x1234, 0x23FE, 0x03) ∧
      after (exec .undefined38 aliased) (fun t => (t.pc, t.fault)) = some (0x0001, none) := by decide

/-- A step runs the instruction that the host places: JMP 0x1234. -/
theorem test_step_runs_the_placed_word :
    after (step (State.reset.withFetchWord 24 0x1234C3)) (fun t => (t.pc, t.fault)) = some (0x1234, none) := by decide

/-- The example of R278: PC = 0x0123, SP = 0x2000, a request with n = 7; the processor is halted. -/
theorem test_interrupt_accepted :
    after (step { base with pc := 0x0123, sp := 0x2000, inte := true, halted := true,
                            env := { base.env with boundaries := [{ reset := false, request := some 7 }] } })
      (fun t => (t.stored 0x1FFF, t.stored 0x1FFE, t.sp, t.pc, t.inte, t.halted)) =
      some (0x01, 0x23, 0x1FFE, 0x0038, false, false) := by decide

/-- The same request right after EI is held off: the instruction at PC, a NOP, runs (R112). -/
theorem test_interrupt_held_off_after_ei :
    after (step { base with pc := 0x0123, sp := 0x2000, inte := true, eiShadow := true,
                            env := { base.env with boundaries := [{ reset := false, request := some 7 }] } })
      (fun t => (t.sp, t.pc, t.inte, t.eiShadow)) = some (0x2000, 0x0124, true, false) := by decide

/-- Reset wins over a request and keeps the registers (R300, R280). -/
theorem test_reset_wins :
    after (step { base with pc := 0x0123, a := 0x5A, inte := true, halted := true,
                            env := { base.env with boundaries := [{ reset := true, request := some 7 }] } })
      (fun t => (t.pc, t.a, t.inte, t.halted, t.sp)) = some (0x0000, 0x5A, false, false, 0x8899) := by decide

/-- A write to ROM is dropped (R53). -/
theorem test_rom_is_not_written :
    after (exec (.sta 0x1000) { base with mem := [(0x1000, 0x11)],
                                          plat := { base.plat with memMap := [{ first := 0x1000, last := 0x1FFF, kind := .rom }] } })
      (fun t => (t.stored 0x1000, t.a)) = some (0x11, 0x77) := by decide

/-- Memory keeps one form: storing 0 removes the entry, storing another byte puts it in its place. -/
theorem test_memory_is_canonical :
    Memory.write [(1, 5), (3, 7)] 3 0 = [(1, 5)] ∧ Memory.write [(1, 5), (3, 7)] 2 6 = [(1, 5), (2, 6), (3, 7)] ∧
      Memory.wf [(1, 5), (3, 7)] = true ∧ Memory.wf [(3, 7), (1, 5)] = false ∧ Memory.wf [(1, 0)] = false := by decide

/-! ### Witnesses: states and operands that meet the hypotheses of the statements -/

/-- RAM below 0x1000, ROM to 0x1FFF, nothing at 0x2000 to 0x2FFF, RAM above. -/
def mapped : State :=
  { base with
    plat := { base.plat with memMap := [{ first := 0x1000, last := 0x1FFF, kind := .rom },
                                        { first := 0x2000, last := 0x2FFF, kind := .none }] } }

theorem witness_byte_accesses :
    mapped.memKind 0x0FFF = .ram ∧ mapped.memKind 0x1000 = .rom ∧ mapped.memKind 0x1FFF = .rom ∧
      mapped.memKind 0x2000 = .none ∧ mapped.memKind 0x2FFF = .none ∧ mapped.memKind 0x3000 = .ram := by decide
theorem witness_word_accesses :
    base.memKind 0xFFFF = .ram ∧ base.memKind (0xFFFF + 1) = .ram ∧ mapped.memKind 0x1FFE ≠ .none ∧
      mapped.memKind (0x1FFE + 1) ≠ .none := by decide
theorem witness_stack_in_ram :
    base.memKind (base.sp - 1) = .ram ∧ base.memKind (base.sp - 2) = .ram ∧
      { base with sp := 0x0001 }.memKind (0x0001 - 2) = .ram := by decide
theorem witness_decode_of_encode : (Instr.mov .b .m).wf = true ∧ (Instr.cc 0xFFFF).wf = true := by decide
theorem witness_encode_of_decode : decode [0x3E, 0x08, 0x76] = .ok (.mvi .a 0x08, [0x76]) := rfl
theorem witness_in :
    base.env.inputs = [] ∧ { base with env := { base.env with inputs := [0x41] } }.env.inputs = [0x41] := by decide
theorem witness_ei_and_di :
    exec .ei base = .next { base with pc := 0x0001, inte := true, eiShadow := true } ∧
      exec .di base = .next { base with pc := 0x0001 } := ⟨rfl, rfl⟩

/-- A halted state whose next boundary has the given answers. -/
def haltedAt (inte : Bool) (b : Boundary) : State :=
  { base with halted := true, inte := inte, env := { base.env with boundaries := [b] } }

theorem witness_halt_idles :
    (haltedAt true { reset := false, request := none }).acceptable = none ∧
      (haltedAt true { reset := false, request := none }).fault = none ∧
      (haltedAt false { reset := false, request := some 7 }).boundary.reset = false := by decide
theorem witness_halt_is_left :
    (haltedAt true { reset := false, request := some 7 }).acceptable = some 7 ∧
      (haltedAt true { reset := false, request := some 7 }).boundary.reset = false ∧
      (haltedAt true { reset := true, request := none }).boundary.reset = true ∧
      (haltedAt true { reset := true, request := none }).fault = none := by decide
theorem witness_halt_ends :
    after (step (haltedAt true { reset := false, request := some 7 })) State.halted = some false ∧
      after (step (haltedAt false { reset := true, request := none })) State.halted = some false := by decide
theorem witness_mov : ¬(Reg8.m = .m ∧ Reg8.a = .m) ∧ ¬(Reg8.a = .m ∧ Reg8.m = .m) := by decide
/-- The reset state with the first of the twelve bytes at PC. -/
def atUndefined : State := { base with mem := [(0, 0x08)] }

theorem witness_undefined_running :
    (0x08, Instr.undefined08) ∈ undefinedRows ∧ atUndefined.plat.undocAliases = false ∧ atUndefined.Running ∧
      atUndefined.stored atUndefined.pc = 0x08 ∧ atUndefined.memKind atUndefined.pc ≠ .none :=
  ⟨by decide, rfl, ⟨rfl, rfl, rfl, rfl⟩, rfl, by decide⟩
theorem witness_running : base.Running := ⟨rfl, rfl, rfl, rfl⟩
theorem witness_faulted :
    { base with fault := some (.undefinedOpcode 0x08 0) }.fault = some (.undefinedOpcode 0x08 0) := rfl
theorem witness_aliases : aliased.plat.undocAliases = true := rfl
theorem witness_step_runs :
    (Instr.jmp 0x1234).wf = true ∧
      decode [({ base with mem := [(0, 0xC3), (1, 0x34), (2, 0x12)] } : State).stored 0,
        ({ base with mem := [(0, 0xC3), (1, 0x34), (2, 0x12)] } : State).stored 1,
        ({ base with mem := [(0, 0xC3), (1, 0x34), (2, 0x12)] } : State).stored 2] = .ok (.jmp 0x1234, []) :=
  ⟨rfl, rfl⟩
theorem witness_step_runs_is_fitted :
    ∀ k < (encode (.jmp 0x1234)).length, base.memKind (base.pc + BitVec.ofNat 16 k) ≠ .none := by decide
theorem witness_opcode_lengths :
    opcodeLength (base.passBoundary.peek 0) = 1 ∧
      opcodeLength ({ base with mem := [(0, 0x3E)] }.passBoundary.peek 0) = 2 ∧
      opcodeLength ({ base with mem := [(0, 0xC3)] }.passBoundary.peek 0) = 3 := by decide
theorem witness_interrupt :
    (haltedAt true { reset := false, request := some 7 }).boundary.request = some 7 ∧
      (haltedAt true { reset := false, request := some 7 }).eiShadow = false ∧
      (haltedAt true { reset := false, request := some 7 }).inte = true := by decide
theorem witness_no_interrupt : base.fault = none ∧ base.boundary.reset = false ∧ base.inte = false := ⟨rfl, rfl, rfl⟩
theorem witness_ei_shadow :
    { base with inte := true, eiShadow := true }.eiShadow = true ∧ exec .nop base = .next (base.advance 1) ∧
      isUndefined .nop = false := ⟨rfl, rfl, rfl⟩
theorem witness_reset_asserted : (haltedAt false { reset := true, request := none }).boundary.reset = true := rfl
theorem witness_final :
    (haltedAt false { reset := false, request := none }).Final ∧
      (haltedAt false { reset := false, request := none }).boundary.reset = false := ⟨⟨rfl, rfl, rfl⟩, rfl⟩
theorem witness_reset_inv : State.reset.Inv := by
  refine ⟨by decide, by decide, ?_⟩
  intro op addr h
  cases h
theorem witness_step_answers_next : step base = .next (base.passBoundary.advance 1) := rfl
theorem witness_canonical_memory : Memory.wf [(0, 0xC3), (1, 0x34)] = true := by decide
theorem witness_step_keeps_rom :
    mapped.memKind 0x1000 ≠ .ram ∧ step mapped = .next (mapped.passBoundary.advance 1) := ⟨by decide, rfl⟩
theorem witness_hidden_bits : exec .nop base = .next (base.advance 1) ∧ Instr.nop ≠ .daa ∧ Instr.nop ≠ .pushPsw :=
  ⟨rfl, by decide, by decide⟩
theorem witness_decimal :
    { base with a := 0x95, b := 0x65 }.a = packedDecimal 95 ∧
      ({ base with a := 0x95, b := 0x65 } : State).operand .b = packedDecimal 65 := by decide
theorem witness_inr_dcr_m : Reg8.m = .m → base.memKind base.hl = .ram := by decide
theorem witness_frames :
    Instr.nop.wf = true ∧ writesSp .nop base = false ∧ branches .nop = false ∧ isUndefined .nop = false ∧
      (flagsWritten (.inr .b)).cy = false ∧ (flagsWritten (.dad .b)).s = false ∧ Instr.undefined08.wf = true ∧
      isUndefined .undefined08 = true ∧ base.plat.undocAliases = false := by decide
theorem witness_conditional_rows : (Cond.nz, Instr.jnz 0xFFFF, Instr.cnz 0xFFFF, Instr.rnz) ∈ conditionalRows 0xFFFF := by decide
theorem witness_defined_lengths :
    isUndefined (decodeBytes 0x07 0 0) = false ∧ isUndefined (decodeBytes 0x09 0 0) = false ∧
      isUndefined (decodeBytes 0xFE 0 0) = false := by decide

end Sys2Proof.Tests
end

section
/-! What `exec` writes and what it leaves as it was, one theorem for each part of the state, for every instruction at once:
registers (10_state.md R27), SP, flags (R44), memory (20_memory.md R60), PC, and the control bits (R39, R41, R42). -/

namespace Sys2Proof.Machine

variable {i : Instr} {s t u : State}

/-! ### Answers of `exec` -/

/-- The two answers of an undefined byte: what its alternative reading does, or the fault (30_encoding.md R96). -/
theorem next_of_ite {c : Prop} [Decidable c] {a b : State}
    (h : (if c then .next a else .next b : Result) = .next t) : (c ∧ t = a) ∨ (¬ c ∧ t = b) := by
  split at h
  next hc => exact .inl ⟨hc, (Host.Outcome.next.inj h).symm⟩
  next hc => exact .inr ⟨hc, (Host.Outcome.next.inj h).symm⟩

/-- No instruction's meaning stops the machine. -/
theorem exec_answers (i : Instr) (s : State) : ∃ t, exec i s = .next t := by
  cases i
  case undefined08 | undefined10 | undefined18 | undefined20 | undefined28 | undefined30 | undefined38 | undefinedCB |
      undefinedD9 | undefinedDD | undefinedED | undefinedFD =>
    by_cases ha : s.plat.undocAliases = true
    · exact ⟨_, if_pos ha⟩
    · exact ⟨_, if_neg ha⟩
  all_goals exact ⟨_, rfl⟩

/-! ### Registers -/

theorem keepsRegisters_iff (written : List Reg8) :
    KeepsRegisters s t written ↔
      (.b ∉ written → t.b = s.b) ∧ (.c ∉ written → t.c = s.c) ∧ (.d ∉ written → t.d = s.d) ∧
      (.e ∉ written → t.e = s.e) ∧ (.h ∉ written → t.h = s.h) ∧ (.l ∉ written → t.l = s.l) ∧
      (.a ∉ written → t.a = s.a) := by
  constructor
  · intro hk
    exact ⟨hk .b nofun, hk .c nofun, hk .d nofun, hk .e nofun, hk .h nofun, hk .l nofun, hk .a nofun⟩
  · rintro ⟨hb, hc, hd, he, hh, hl, ha⟩ r hm hr
    cases r
    case b => exact hb hr
    case c => exact hc hr
    case d => exact hd hr
    case e => exact he hr
    case h => exact hh hr
    case l => exact hl hr
    case m => exact absurd rfl hm
    case a => exact ha hr

theorem KeepsRegisters.trans {written more : List Reg8} (h : KeepsRegisters s t written) (h' : KeepsRegisters t u more)
    (hsub : written ⊆ more) : KeepsRegisters s u more :=
  fun r hr hmore => (h' r hr hmore).trans (h r hr fun hw => hmore (hsub hw))

theorem setOperand_keepsRegisters (r : Reg8) (v : Byte) : KeepsRegisters s (s.setOperand r v) [r] :=
  fun x hx hne => State.setOperand_other s r x v hx (by simpa using hne)

theorem setPair_keepsRegisters (rp : Pair) (w : Addr) : KeepsRegisters s (s.setPair rp w) (pairRegisters rp) := by
  cases rp <;> simp [keepsRegisters_iff, State.setPair, pairRegisters]

theorem setStackPair_keepsRegisters (rp : StackPair) (w : Addr) :
    KeepsRegisters s (s.setStackPair rp w) (stackPairRegisters rp) := by
  cases rp <;> simp [keepsRegisters_iff, State.setStackPair, stackPairRegisters]

/-- 10_state.md R27, the column "written by" of the 8-bit registers. -/
theorem exec_keepsRegisters (h : exec i s = .next t) : KeepsRegisters s t (registersWritten i) := by
  cases i
  case undefined08 | undefined10 | undefined18 | undefined20 | undefined28 | undefined30 | undefined38 | undefinedCB |
      undefinedD9 | undefinedDD | undefinedED | undefinedFD =>
    obtain ⟨_, rfl⟩ | ⟨_, rfl⟩ := next_of_ite h <;> simp [keepsRegisters_iff]
  all_goals obtain rfl := Host.Outcome.next.inj h
  case mov | mvi | inr | dcr =>
    exact .trans (by simp [keepsRegisters_iff]) (setOperand_keepsRegisters _ _) (List.nil_subset _)
  case lxi | inx | dcx =>
    exact .trans (by simp [keepsRegisters_iff]) (setPair_keepsRegisters _ _) (List.nil_subset _)
  case pop =>
    exact .trans (by simp [keepsRegisters_iff]) (setStackPair_keepsRegisters _ _) (List.nil_subset _)
  all_goals simp [keepsRegisters_iff, registersWritten]

/-! ### SP -/

theorem setPair_keepsSp (rp : Pair) (w : Addr) (hrp : (rp == .sp) = false) : (s.setPair rp w).sp = s.sp := by
  cases rp <;> simp_all [State.setPair]

theorem callIf_keepsSp {cond : Cond} (n w : Addr) (hn : condHolds cond s.flags = false) :
    ((s.advance n).callIf cond w).sp = s.sp := by
  simp [State.callIf, hn]

theorem returnIf_keepsSp {cond : Cond} (n : Addr) (hn : condHolds cond s.flags = false) :
    ((s.advance n).returnIf cond).sp = s.sp := by
  simp [State.returnIf, hn]

/-- 10_state.md R27, the row of SP: a conditional call or return that is not taken leaves it. -/
theorem exec_keepsSp (h : exec i s = .next t) (hw : writesSp i s = false) : t.sp = s.sp := by
  cases i
  case undefined08 | undefined10 | undefined18 | undefined20 | undefined28 | undefined30 | undefined38 | undefinedCB =>
    obtain ⟨_, rfl⟩ | ⟨_, rfl⟩ := next_of_ite h <;> simp
  case undefinedD9 | undefinedDD | undefinedED | undefinedFD =>
    obtain ⟨ha, rfl⟩ | ⟨_, rfl⟩ := next_of_ite h
    · exact absurd ha (by simpa [writesSp] using hw)
    · simp
  all_goals obtain rfl := Host.Outcome.next.inj h
  case push | pushPsw | pop | popPsw | sphl | call | ret | rst => nomatch hw
  case lxi | inx | dcx => exact setPair_keepsSp _ _ hw
  case cc | cnc | cz | cnz | cm | cp | cpe | cpo => refine callIf_keepsSp _ _ ?_; exact hw
  case rc | rnc | rz | rnz | rm | rp | rpe | rpo => refine returnIf_keepsSp _ ?_; exact hw
  all_goals simp

/-! ### Flags -/

/-- 10_state.md R44, the columns that are "-". -/
theorem exec_keepsFlags (h : exec i s = .next t) : KeepsFlags s t (flagsWritten i) := by
  cases i
  case undefined08 | undefined10 | undefined18 | undefined20 | undefined28 | undefined30 | undefined38 | undefinedCB |
      undefinedD9 | undefinedDD | undefinedED | undefinedFD =>
    obtain ⟨_, rfl⟩ | ⟨_, rfl⟩ := next_of_ite h <;> exact keepsFlags_of_eq (by simp) _
  all_goals obtain rfl := Host.Outcome.next.inj h
  case inr | dcr => simp [KeepsFlags, flagsWritten, inc8, dec8, setSzp]
  case dad | rlc | rrc | ral | rar | stc | cmc => exact keepsFlags_of_cy (by rfl)
  case add | adc | adi | aci | sub | sbb | sui | sbi | cmp | cpi | ana | ani | xra | xri | ora | ori | daa | popPsw =>
    simp [KeepsFlags, flagsWritten]
  all_goals exact keepsFlags_of_eq (by simp) _

/-! ### Memory -/

theorem keepsMemory_of_mem_eq (hm : t.mem = s.mem) (stores : List Addr) : KeepsMemory s t stores :=
  fun x _ => by simp [State.stored, hm]

/-- From `s` to `t` memory has changed by stores at the listed addresses alone, those where there is no RAM dropped
(20_memory.md R53, R60). -/
structure StoresOnly (s t : State) (stores : List Addr) : Prop where
  others : KeepsMemory s t stores
  notRam : ∀ addr, s.memKind addr ≠ .ram → t.stored addr = s.stored addr
  wf : Memory.wf s.mem = true → Memory.wf t.mem = true
  plat : t.plat = s.plat

theorem storesOnly_of_mem_eq (hm : t.mem = s.mem) (hp : t.plat = s.plat) (stores : List Addr) :
    StoresOnly s t stores where
  others := keepsMemory_of_mem_eq hm stores
  notRam x _ := by simp [State.stored, hm]
  wf hwf := by rwa [hm]
  plat := hp

theorem StoresOnly.trans {first second : List Addr} (h : StoresOnly s t first) (h' : StoresOnly t u second) :
    StoresOnly s u (first ++ second) where
  others x hx := by
    obtain ⟨hfirst, hsecond⟩ := not_or.1 fun hor => hx (List.mem_append.2 hor)
    exact (h'.others x hsecond).trans (h.others x hfirst)
  notRam x hx := (h'.notRam x (by rwa [State.memKind_congr h.plat])).trans (h.notRam x hx)
  wf hwf := h'.wf (h.wf hwf)
  plat := h'.plat.trans h.plat

theorem StoresOnly.mono {stores more : List Addr} (h : StoresOnly s t stores) (hsub : stores ⊆ more) :
    StoresOnly s t more :=
  { h with others := fun x hx => h.others x fun hmem => hx (hsub hmem) }

/-- What came before the stores may be anything that leaves memory alone. -/
theorem StoresOnly.after {stores : List Addr} (h : StoresOnly t u stores) (hm : t.mem = s.mem) (hp : t.plat = s.plat) :
    StoresOnly s u stores :=
  (storesOnly_of_mem_eq hm hp []).trans h

theorem store_storesOnly (addr : Addr) (v : Byte) : StoresOnly s (s.store addr v) [addr] where
  others x hx := State.store_stored_other s v (by simpa using hx)
  notRam x hx := by
    by_cases he : x = addr
    · rw [he] at hx ⊢
      rw [State.store_stored_same, if_neg hx]
    · exact State.store_stored_other s v he
  wf := State.store_keeps_wf s addr v
  plat := by simp

theorem setOperand_storesOnly (dst : Reg8) (v : Byte) : StoresOnly s (s.setOperand dst v) (operandStores s dst) := by
  cases dst
  case m => exact store_storesOnly s.hl v
  all_goals exact storesOnly_of_mem_eq (by rfl) (by rfl) _

/-- An operand written after reads and register moves that leave HL alone. -/
theorem setOperand_storesOnly_after (hm : u.mem = s.mem) (hp : u.plat = s.plat) (hh : u.h = s.h) (hl : u.l = s.l)
    (dst : Reg8) (v : Byte) : StoresOnly s (u.setOperand dst v) (operandStores s dst) := by
  simpa [operandStores, State.hl, hh, hl] using (setOperand_storesOnly dst v).after hm hp

theorem push16_storesOnly (w : Addr) : StoresOnly s (s.push16 w) (pushStores s) :=
  ((store_storesOnly _ _).trans (store_storesOnly _ _)).trans (storesOnly_of_mem_eq (by rfl) (by rfl) [])

theorem callTo_storesOnly (w : Addr) : StoresOnly s (s.callTo w) (pushStores s) :=
  (push16_storesOnly _).trans (storesOnly_of_mem_eq (by rfl) (by rfl) [])

theorem callIf_storesOnly (cond : Cond) (w : Addr) :
    StoresOnly s (s.callIf cond w) (if condHolds cond s.flags then pushStores s else []) := by
  unfold State.callIf
  split
  · exact callTo_storesOnly w
  · exact storesOnly_of_mem_eq rfl rfl []

/-- XTHL stores H at SP + 1 and then L at SP (42_register_pair.md R148). -/
theorem xthl_storesOnly (w : Addr) :
    StoresOnly s (((((s.advance 1).touch16 s.sp).store (s.sp + 1) s.h).store s.sp s.l).setHl w) [s.sp, s.sp + 1] := by
  have stores := ((store_storesOnly (s := (s.advance 1).touch16 s.sp) (s.sp + 1) s.h).trans
    (store_storesOnly s.sp s.l)).after (s := s) (by simp) (by simp)
  exact (stores.trans (storesOnly_of_mem_eq (by simp) (by simp) [])).mono (by simp)

/-- 20_memory.md R60, the column "writes". -/
theorem exec_storesOnly (h : exec i s = .next t) : StoresOnly s t (storeAddresses i s) := by
  cases i
  case undefined08 | undefined10 | undefined18 | undefined20 | undefined28 | undefined30 | undefined38 | undefinedCB |
      undefinedD9 =>
    obtain ⟨_, rfl⟩ | ⟨_, rfl⟩ := next_of_ite h <;> exact storesOnly_of_mem_eq (by simp) (by simp) _
  case undefinedDD | undefinedED | undefinedFD =>
    obtain ⟨ha, rfl⟩ | ⟨_, rfl⟩ := next_of_ite h
    · simpa [storeAddresses, ha, pushStores] using
        (callTo_storesOnly (s := s.touchAlias.advance 3) s.aliasAddr16).after (s := s) (by simp) (by simp)
    · exact storesOnly_of_mem_eq (by simp) (by simp) _
  all_goals obtain rfl := Host.Outcome.next.inj h
  case mov | mvi | inr | dcr =>
    exact setOperand_storesOnly_after (by simp) (by simp) (by simp) (by simp) _ _
  case stax | sta => exact (store_storesOnly _ _).after (by rfl) (by rfl)
  case shld => exact ((store_storesOnly _ _).trans (store_storesOnly _ _)).after (by rfl) (by rfl)
  case xthl => exact xthl_storesOnly _
  case push | pushPsw => exact (push16_storesOnly _).after (by rfl) (by rfl)
  case rst | call => exact (callTo_storesOnly _).after (by rfl) (by rfl)
  case cc | cnc | cz | cnz | cm | cp | cpe | cpo => exact (callIf_storesOnly _ _).after (by rfl) (by rfl)
  all_goals exact storesOnly_of_mem_eq (by simp) (by simp) _

/-! ### PC -/

/-- An instruction that completes and does not branch goes on to the next sequential address (10_state.md R29). -/
theorem exec_pc (h : exec i s = .next t) (hb : branches i = false)
    (hc : isUndefined i = true → s.plat.undocAliases = true) :
    t.pc = s.pc + BitVec.ofNat 16 (encode i).length := by
  cases i
  case undefined08 | undefined10 | undefined18 | undefined20 | undefined28 | undefined30 | undefined38 =>
    obtain ⟨_, rfl⟩ | ⟨ha, rfl⟩ := next_of_ite h
    · rfl
    · exact absurd (hc rfl) ha
  case pchl | jmp | jc | jnc | jz | jnz | jm | jp | jpe | jpo | call | cc | cnc | cz | cnz | cm | cp | cpe | cpo | ret |
      rc | rnc | rz | rnz | rm | rp | rpe | rpo | rst | undefinedCB | undefinedD9 | undefinedDD | undefinedED |
      undefinedFD =>
    nomatch hb
  all_goals
    obtain rfl := Host.Outcome.next.inj h
    simp [encode]

/-! ### Control -/

/-- What an instruction does to INTE, EI_SHADOW, HALTED, FAULT and IoTrace: EI, DI, HLT, IN and OUT apart, nothing but
clearing EI_SHADOW, unless it is an undefined byte that raises its fault (10_state.md R39, R41, R42). -/
structure ControlFrame (i : Instr) (s t : State) : Prop where
  inte : i ≠ .ei → i ≠ .di → t.inte = s.inte
  inte_of_ei : i = .ei → t.inte = true
  halted : i ≠ .hlt → t.halted = s.halted
  ioTrace : (∀ port, i ≠ .inPort port) → (∀ port, i ≠ .outPort port) → t.ioTrace = s.ioTrace
  eiShadow : (isUndefined i = true → s.plat.undocAliases = true) → (t.eiShadow = true ↔ i = .ei)
  fault : (isUndefined i = true → s.plat.undocAliases = true) → t.fault = s.fault

theorem exec_controlFrame (h : exec i s = .next t) : ControlFrame i s t := by
  cases i
  case undefined08 | undefined10 | undefined18 | undefined20 | undefined28 | undefined30 | undefined38 | undefinedCB |
      undefinedD9 | undefinedDD | undefinedED | undefinedFD =>
    obtain ⟨_, rfl⟩ | ⟨ha, rfl⟩ := next_of_ite h
    · constructor <;> simp
    · constructor <;> simp [isUndefined, ha]
  all_goals
    obtain rfl := Host.Outcome.next.inj h
    constructor <;> simp

/-! ### The twelve undefined bytes -/

theorem exists_mem_undefinedRows (hu : isUndefined i = true) : ∃ op, (op, i) ∈ undefinedRows := by
  cases i
  case undefined08 | undefined10 | undefined18 | undefined20 | undefined28 | undefined30 | undefined38 | undefinedCB |
      undefinedD9 | undefinedDD | undefinedED | undefinedFD =>
    simp [undefinedRows]
  all_goals nomatch hu

theorem undefinedRows_mem_opcodes : ∀ row ∈ undefinedRows, row.1 ∈ undefinedOpcodes := by decide

/-- 60_exceptions.md R270: with `UndocAliases` false each of the twelve raises the fault with its own byte. -/
theorem exec_raises {row : Byte × Instr} (hrow : row ∈ undefinedRows) (ha : s.plat.undocAliases = false) :
    exec row.2 s = .next (s.raiseUndefined row.1) := by
  simp only [undefinedRows, List.mem_cons, List.not_mem_nil, or_false] at hrow
  rcases hrow with rfl | rfl | rfl | rfl | rfl | rfl | rfl | rfl | rfl | rfl | rfl | rfl <;> exact if_neg (by simp [ha])

theorem exec_keepsPc_of_raises (h : exec i s = .next t) (hu : isUndefined i = true) (ha : s.plat.undocAliases = false) :
    t.pc = s.pc := by
  obtain ⟨op, hrow⟩ := exists_mem_undefinedRows hu
  obtain rfl := Host.Outcome.next.inj ((exec_raises hrow ha).symm.trans h)
  rfl

theorem decodeQuadrant0_of_undefined (y z : BitVec 3) (byte2 byte3 : Byte) :
    isUndefined (decodeQuadrant0 y z byte2 byte3) = true →
      decodeQuadrant0 y z byte2 byte3 = decodeQuadrant0 y z 0 0 := by
  unfold decodeQuadrant0
  dsimp only
  repeat' split
  all_goals simp [isUndefined]

theorem decodeQuadrant3_of_undefined (y z : BitVec 3) (byte2 byte3 : Byte) :
    isUndefined (decodeQuadrant3 y z byte2 byte3) = true →
      decodeQuadrant3 y z byte2 byte3 = decodeQuadrant3 y z 0 0 := by
  unfold decodeQuadrant3
  dsimp only
  repeat' split
  all_goals simp [isUndefined]

/-- An undefined instruction carries no operand byte. -/
theorem decodeBytes_of_undefined (op byte2 byte3 : Byte) :
    isUndefined (decodeBytes op byte2 byte3) = true → decodeBytes op byte2 byte3 = decodeBytes op 0 0 := by
  unfold decodeBytes
  dsimp only
  split
  · exact decodeQuadrant0_of_undefined _ _ _ _
  · exact fun _ => rfl
  · exact fun _ => rfl
  · exact decodeQuadrant3_of_undefined _ _ _ _

/-- Only the twelve bytes of 30_encoding.md R95 decode to an undefined instruction, each to its own. -/
theorem decodeBytes_mem_undefinedRows (op byte2 byte3 : Byte) (hu : isUndefined (decodeBytes op byte2 byte3) = true) :
    (op, decodeBytes op byte2 byte3) ∈ undefinedRows := by
  have table : ∀ op : Byte, isUndefined (decodeBytes op 0 0) = true → (op, decodeBytes op 0 0) ∈ undefinedRows := by
    decide
  have heq := decodeBytes_of_undefined op byte2 byte3 hu
  rw [heq] at hu ⊢
  exact table op hu

end Sys2Proof.Machine
end

section
/-! The invariant (memory in canonical form, EI_SHADOW legal, the fault mark truthful) over each kind of step, and what
EI_SHADOW and the frames of `exec` give for every instruction. -/

namespace Sys2Proof.Machine

variable {i : Instr} {s t : State}

/-- Without a fault the third part of the invariant says nothing. -/
theorem inv_of_fault_none (hf : s.fault = none) (hwf : Memory.wf s.mem = true)
    (hei : s.eiShadow = true → s.inte = true ∧ s.halted = false) : s.Inv :=
  ⟨hwf, hei, fun op addr he => by simp [hf] at he⟩

theorem State.Inv.passBoundary (hinv : s.Inv) : s.passBoundary.Inv := by
  rw [State.passBoundary_eq]
  exact hinv

theorem applyReset_inv (hwf : Memory.wf s.mem = true) (hf : s.fault = none) : s.applyReset.Inv :=
  inv_of_fault_none (by simpa using hf) (by simpa using hwf) nofun

theorem acceptInterrupt_inv (n : BitVec 3) (hwf : Memory.wf s.mem = true) (hf : s.fault = none) :
    (s.acceptInterrupt n).Inv := by
  obtain ⟨_, _, hei, _, _⟩ := s.acceptInterrupt_spec n
  exact inv_of_fault_none (by simpa using hf) (State.push16_keeps_wf _ _ hwf) (by simp [hei])

/-- An instruction that completes sets EI_SHADOW only as EI, which sets INTE and does not halt. -/
theorem exec_completes_inv (h : exec i s = .next t) (hc : isUndefined i = true → s.plat.undocAliases = true)
    (hwf : Memory.wf s.mem = true) (hf : s.fault = none) (hh : s.halted = false) : t.Inv := by
  have frame := exec_controlFrame h
  refine inv_of_fault_none ((frame.fault hc).trans hf) ((exec_storesOnly h).wf hwf) fun hei => ?_
  have hi : i = .ei := (frame.eiShadow hc).1 hei
  exact ⟨frame.inte_of_ei hi, (frame.halted (by simp [hi])).trans hh⟩

theorem raiseUndefined_inv {op : Byte} (hinv : s.Inv) (hh : s.halted = false) (ha : s.plat.undocAliases = false)
    (hop : op ∈ undefinedOpcodes) (hpc : s.memKind s.pc ≠ .none → s.stored s.pc = op) : (s.raiseUndefined op).Inv := by
  obtain ⟨hwf, hei, _⟩ := hinv
  refine ⟨hwf, hei, fun op' addr he => ?_⟩
  obtain ⟨rfl, rfl⟩ : op = op' ∧ s.pc = addr := by simpa using he
  exact ⟨hop, rfl, ha, hh, hpc⟩

theorem State.fetch_decodes (s : State) : ∃ byte2 byte3, s.fetch.1 = decodeBytes (s.peek s.pc) byte2 byte3 :=
  ⟨_, _, rfl⟩

/-- Either the fetched instruction completes, or the byte at PC is one of the twelve and raises its fault. -/
theorem runNext_inv (hinv : s.Inv) (hf : s.fault = none) (hh : s.halted = false) (h : runNext s = .next t) : t.Inv := by
  obtain ⟨e, he⟩ := s.fetch_keeps
  obtain ⟨byte2, byte3, hdec⟩ := s.fetch_decodes
  rw [runNext, hdec, he] at h
  by_cases hc : isUndefined (decodeBytes (s.peek s.pc) byte2 byte3) = true → s.plat.undocAliases = true
  · have ⟨hwf, _, _⟩ := hinv
    exact exec_completes_inv h hc hwf hf hh
  · obtain ⟨hu, hon⟩ := Classical.not_imp.1 hc
    have ha : s.plat.undocAliases = false := by simpa using hon
    have hrow := decodeBytes_mem_undefinedRows _ _ _ hu
    obtain rfl := Host.Outcome.next.inj ((exec_raises (s := { s with env := e }) hrow ha).symm.trans h)
    exact raiseUndefined_inv hinv hh ha (undefinedRows_mem_opcodes _ hrow) fun hk => (s.peek_of_fitted hk).1.symm

/-- Settles O53, by the four things a step can be. -/
theorem stepKeepsInvariant : Obligations.StepKeepsInvariant := by
  intro s t hinv h
  have ⟨hwf, _, _⟩ := hinv
  obtain ⟨hf, ⟨_, rfl⟩ | ⟨n, _, _, rfl⟩ | ⟨_, _, _, rfl⟩ | ⟨_, _, hh, hrun⟩⟩ := step_cases h
  · exact applyReset_inv (by simpa using hwf) (by simpa using hf)
  · exact acceptInterrupt_inv n (by simpa using hwf) (by simpa using hf)
  · exact hinv.passBoundary
  · exact runNext_inv hinv.passBoundary (by simpa using hf) (by simpa using hh) hrun

/-- Settles O54: at power-on FAULT is none and EI_SHADOW clear, so only memory's form is in question. -/
theorem resetHasInvariant : Obligations.ResetHasInvariant :=
  ⟨inv_of_fault_none rfl rfl nofun, fun _ _ _ _ hwf => inv_of_fault_none rfl hwf nofun⟩

theorem State.acceptable_eq_some (n : BitVec 3) :
    s.acceptable = some n ↔ s.inte = true ∧ s.eiShadow = false ∧ s.boundary.request = some n := by
  simp [State.acceptable, and_assoc]

theorem State.acceptable_of_eiShadow (hei : s.eiShadow = true) : s.acceptable = none := by
  simp [State.acceptable, hei]

/-- Settles O48. -/
theorem eiShadowLastsOneInstruction : Obligations.EiShadowLastsOneInstruction :=
  ⟨fun _ _ _ h hc => (exec_controlFrame h).eiShadow hc, fun _ hei => State.acceptable_of_eiShadow hei,
    fun _ n => State.acceptable_eq_some n⟩

/-- Settles O55, from the frame of each part of the state. -/
theorem everyInstructionKeepsTheRest : Obligations.EveryInstructionKeepsTheRest := by
  intro i s _
  obtain ⟨t, h⟩ := exec_answers i s
  have frame := exec_controlFrame h
  have stores := exec_storesOnly h
  have completes (hor : isUndefined i = false ∨ s.plat.undocAliases = true) :
      isUndefined i = true → s.plat.undocAliases = true := fun hu => hor.resolve_left (by simp [hu])
  exact ⟨t, h, exec_keepsRegisters h, exec_keepsSp h, exec_keepsFlags h, stores.others, frame.inte, frame.halted,
    fun hor => frame.fault (completes hor), frame.ioTrace, stores.plat, fun hor hb => exec_pc h hb (completes hor),
    exec_keepsPc_of_raises h⟩

/-- Settles O50. -/
theorem powerOnState : Obligations.PowerOnState := by
  refine ⟨fun draw initMem plat env => ?_, PowerOn.named, rfl⟩
  simp [State.powerOn]

end Sys2Proof.Machine
end

section
/-! The flag computations (10_state.md R33 to R38): parity, addition, subtraction, the flag byte. -/

namespace Sys2Proof.Machine

theorem parityEven_eq_decide : ∀ v : Byte, parityEven v = decide (onesIn v % 2 = 0) := by decide

/-- Settles O1. -/
theorem parityIsEvenCountOfOnes : Obligations.ParityIsEvenCountOfOnes := by
  intro v
  constructor
  · simp [parityEven]
  · rw [parityEven_eq_decide, decide_eq_true_iff]

/-- 10_state.md R34. -/
theorem setSzp_resultFlags (v : Byte) (f : Flags) : ResultFlags v (setSzp v f) :=
  ⟨rfl, rfl, parityEven_eq_decide v⟩

/-- 10_state.md R35. -/
theorem add8_isSum (a b : Byte) (cin : Bool) : IsSum a b cin (add8 a b cin).value (add8 a b cin).flags :=
  ⟨BitVec.toNat_ofNat _ _, rfl, rfl, setSzp_resultFlags _ _⟩

/-- 10_state.md R36: adding the one's complement is subtracting, and no carry out of it is a borrow. -/
theorem sub8_isDifference (a b : Byte) (bin : Bool) : IsDifference a b bin (sub8 a b bin).value (sub8 a b bin).flags := by
  have ha := a.isLt
  have hb := b.isLt
  have hbin := bin.toNat_le
  refine ⟨?_, ?_, rfl, setSzp_resultFlags _ _⟩
  · simp only [sub8, BitVec.toNat_ofNat]
    omega
  · simp only [sub8, setSzp, ← decide_not, decide_eq_decide]
    omega

/-- AC is clear exactly when the low nibble borrows (10_state.md R36). -/
theorem sub8_ac (a b : Byte) (bin : Bool) :
    (sub8 a b bin).flags.ac = false ↔ a.toNat % 16 < b.toNat % 16 + bin.toNat := by
  have hb := b.isLt
  have hbin := bin.toNat_le
  simp only [sub8, setSzp, decide_eq_false_iff_not]
  omega

theorem sub8_self (x : Byte) :
    sub8 x x false = { value := 0, flags := { s := false, z := true, ac := true, p := true, cy := false } } := by
  have hx := x.isLt
  have hsum : x.toNat + (255 - x.toNat) + 1 = 256 := by omega
  have hac : x.toNat % 16 + (255 - x.toNat) % 16 + 1 > 15 := by omega
  simp [sub8, setSzp, hsum, hac, parityEven]

/-- Settles O2. -/
theorem additionSetsFlagsExactly : Obligations.AdditionSetsFlagsExactly := add8_isSum

/-- Settles O3. -/
theorem subtractionSetsFlagsExactly : Obligations.SubtractionSetsFlagsExactly :=
  ⟨fun a b bin => ⟨sub8_isDifference a b bin, sub8_ac a b bin⟩, fun x => by simp [sub8_self]⟩

theorem flagsByte_toNat (f : Flags) :
    (flagsByte f).toNat =
      128 * f.s.toNat + 64 * f.z.toNat + 16 * f.ac.toNat + 4 * f.p.toNat + 2 + f.cy.toNat := by
  have hs := f.s.toNat_le
  have hz := f.z.toNat_le
  have hac := f.ac.toNat_le
  have hp := f.p.toNat_le
  have hcy := f.cy.toNat_le
  simp only [flagsByte, BitVec.toNat_ofNat]
  omega

theorem flagsByte_bits (f : Flags) :
    (flagsByte f).getLsbD 7 = f.s ∧ (flagsByte f).getLsbD 6 = f.z ∧ (flagsByte f).getLsbD 5 = false ∧
      (flagsByte f).getLsbD 4 = f.ac ∧ (flagsByte f).getLsbD 3 = false ∧ (flagsByte f).getLsbD 2 = f.p ∧
      (flagsByte f).getLsbD 1 = true ∧ (flagsByte f).getLsbD 0 = f.cy := by
  obtain ⟨s, z, ac, p, cy⟩ := f
  revert s z ac p cy
  decide

theorem flagsOfByte_flagsByte (f : Flags) : flagsOfByte (flagsByte f) = f := by
  obtain ⟨hs, hz, _, hac, _, hp, _, hcy⟩ := flagsByte_bits f
  simp only [flagsOfByte, hs, hz, hac, hp, hcy]

theorem flagsByte_flagsOfByte : ∀ v : Byte, flagsByte (flagsOfByte v) = (v &&& 0xD5) ||| 0x02 := by decide

/-- Settles O4. -/
theorem flagByteHoldsFiveFlags : Obligations.FlagByteHoldsFiveFlags := fun f v =>
  ⟨flagsByte_toNat f, flagsByte_bits f, ⟨rfl, rfl, rfl, rfl, rfl⟩, flagsOfByte_flagsByte f, flagsByte_flagsOfByte v⟩

end Sys2Proof.Machine
end

section
/-! Jumps, calls and returns of every condition (48_branching.md), and what the operand codes select (10_state.md R22 to R26). -/

namespace Sys2Proof.Machine

variable {s t : State}

/-! ### What a 16-bit read depends on -/

theorem State.touch_env_congr (hp : t.plat = s.plat) (he : t.env = s.env) (addr : Addr) :
    (t.touch addr).env = (s.touch addr).env := by
  simp only [State.touch, State.memKind_congr hp]
  cases s.memKind addr <;> simp [State.draw, he]

theorem State.peek16_congr (hm : t.mem = s.mem) (hp : t.plat = s.plat) (he : t.env = s.env) (addr : Addr) :
    t.peek16 addr = s.peek16 addr := by
  rw [State.peek16, State.peek16, State.peek_congr hm hp he,
    State.peek_congr (by simpa using hm) (by simpa using hp) (State.touch_env_congr hp he addr)]

/-! ### Jumps, calls, returns -/

/-- 20_memory.md R73. -/
theorem push16_pushes (w : Addr) : Pushes s (s.push16 w) w := by
  obtain ⟨hhi, hlo⟩ := s.push16_stored w
  exact ⟨rfl, hhi, hlo, (push16_storesOnly w).others⟩

theorem advance_jumpsTo (n : Addr) : JumpsTo s (s.advance n) (s.pc + n) :=
  ⟨rfl, rfl, rfl, by simp [keepsRegisters_iff], keepsMemory_of_mem_eq (by rfl) [], by simp [KeepsControl]⟩

theorem setPc_jumpsTo (n target : Addr) : JumpsTo s ((s.advance n).setPc target) target :=
  ⟨rfl, rfl, rfl, by simp [keepsRegisters_iff], keepsMemory_of_mem_eq (by rfl) [], by simp [KeepsControl]⟩

theorem jumpIf_jumpsTo (cond : Cond) (n target : Addr) :
    JumpsTo s ((s.advance n).jumpIf cond target) (if condHolds cond s.flags then target else s.pc + n) := by
  by_cases hc : condHolds cond s.flags = true
  · simpa [State.jumpIf, hc] using setPc_jumpsTo n target
  · simpa [State.jumpIf, hc] using advance_jumpsTo n

theorem callTo_callsTo (n target : Addr) : CallsTo s ((s.advance n).callTo target) (s.pc + n) target := by
  refine ⟨push16_pushes (s := s.advance n) (s.pc + n), ?_⟩
  simp [keepsRegisters_iff, KeepsControl]

theorem callIf_callsTo (cond : Cond) (n target : Addr) :
    if condHolds cond s.flags then CallsTo s ((s.advance n).callIf cond target) (s.pc + n) target
    else JumpsTo s ((s.advance n).callIf cond target) (s.pc + n) := by
  by_cases hc : condHolds cond s.flags = true
  · simpa [State.callIf, hc] using callTo_callsTo n target
  · simpa [State.callIf, hc] using advance_jumpsTo n

theorem returnFrom_returnsFrom (n : Addr) : ReturnsFrom s (s.advance n).returnFrom :=
  ⟨State.peek16_congr (by rfl) (by rfl) (by rfl) s.sp, rfl, by simp, by simp [keepsRegisters_iff],
    keepsMemory_of_mem_eq (by simp) [], by simp [KeepsControl]⟩

theorem returnIf_returnsFrom (cond : Cond) (n : Addr) :
    if condHolds cond s.flags then ReturnsFrom s ((s.advance n).returnIf cond)
    else JumpsTo s ((s.advance n).returnIf cond) (s.pc + n) := by
  by_cases hc : condHolds cond s.flags = true
  · simpa [State.returnIf, hc] using returnFrom_returnsFrom n
  · simpa [State.returnIf, hc] using advance_jumpsTo n

/-- The three instructions of a row are the jump, the call and the return of its condition (10_state.md R32). -/
theorem conditionalRows_exec (s : State) {target : Addr} {row : Cond × Instr × Instr × Instr}
    (hrow : row ∈ conditionalRows target) :
    exec row.2.1 s = .next ((s.advance 3).jumpIf row.1 target) ∧
      exec row.2.2.1 s = .next ((s.advance 3).callIf row.1 target) ∧
      exec row.2.2.2 s = .next ((s.advance 1).returnIf row.1) := by
  simp only [conditionalRows, List.mem_cons, List.not_mem_nil, or_false] at hrow
  rcases hrow with rfl | rfl | rfl | rfl | rfl | rfl | rfl | rfl <;> exact ⟨rfl, rfl, rfl⟩

/-- Settles O5. -/
theorem conditionsTestTheirFlags : Obligations.ConditionsTestTheirFlags := by
  refine fun f x y => ⟨⟨rfl, rfl, rfl, rfl, rfl, rfl, rfl, rfl⟩, ?_, fun s target row hrow => ?_⟩
  · and_intros <;> rfl
  · obtain ⟨hjump, hcall, hreturn⟩ := conditionalRows_exec s hrow
    exact ⟨⟨_, hjump, jumpIf_jumpsTo _ _ _⟩, ⟨_, hcall, callIf_callsTo _ _ _⟩, ⟨_, hreturn, returnIf_returnsFrom _ _⟩⟩

/-! ### Operands and PSW -/

theorem joinBytes_getLsbD_low (h l : Byte) {k : Nat} (hk : k < 8) : (joinBytes h l).getLsbD k = l.getLsbD k :=
  BitVec.getLsbD_append.trans (if_pos hk)

theorem loByte_getLsbD (w : Addr) {k : Nat} (hk : k < 8) : (loByte w).getLsbD k = w.getLsbD k := by
  rw [loByte, BitVec.getLsbD_extractLsb', Nat.zero_add, decide_eq_true hk, Bool.true_and]

theorem State.psw_toNat (s : State) :
    s.psw.toNat = 256 * s.a.toNat +
      (128 * s.flags.s.toNat + 64 * s.flags.z.toNat + 16 * s.flags.ac.toNat + 4 * s.flags.p.toNat + 2 +
        s.flags.cy.toNat) := by
  rw [State.psw, joinBytes_toNat, flagsByte_toNat]

theorem State.psw_fixed_bits (s : State) :
    s.psw.getLsbD 5 = false ∧ s.psw.getLsbD 3 = false ∧ s.psw.getLsbD 1 = true := by
  obtain ⟨_, _, h5, _, h3, _, h1, _⟩ := flagsByte_bits s.flags
  exact ⟨(joinBytes_getLsbD_low _ _ (by decide)).trans h5, (joinBytes_getLsbD_low _ _ (by decide)).trans h3,
    (joinBytes_getLsbD_low _ _ (by decide)).trans h1⟩

theorem State.setPsw_eq (s : State) (w : Addr) :
    s.setPsw w =
      { s with a := hiByte w,
               flags := { s := w.getLsbD 7, z := w.getLsbD 6, ac := w.getLsbD 4, p := w.getLsbD 2,
                          cy := w.getLsbD 0 } } := by
  simp only [State.setPsw, State.setFlags, State.setA, flagsOfByte, loByte_getLsbD, Nat.reduceLT]

theorem State.setPsw_psw (s : State) (w : Addr) :
    (s.setPsw w).psw = joinBytes (hiByte w) ((loByte w &&& 0xD5) ||| 0x02) := by
  rw [State.psw, State.setPsw_a, State.setPsw_flags, flagsByte_flagsOfByte]

/-- The address of M is the HL that the instruction begins with (10_state.md R22). -/
theorem exec_mov_from_m {dst : Reg8} (hdst : dst ≠ .m) :
    ∃ t, exec (.mov dst .m) s = .next t ∧ t.operand dst = s.peek s.hl :=
  ⟨_, rfl, State.setOperand_same _ _ _ hdst⟩

/-- Settles O6. -/
theorem operandsFollowTheirCodes : Obligations.OperandsFollowTheirCodes := by
  intro s v w
  refine ⟨⟨rfl, rfl, rfl, rfl, rfl, rfl, rfl, rfl⟩, ⟨rfl, rfl, rfl, rfl, rfl, rfl, rfl, rfl⟩,
    ⟨joinBytes_toNat _ _, joinBytes_toNat _ _, joinBytes_toNat _ _, rfl⟩, ⟨rfl, rfl, rfl, rfl⟩,
    ⟨hiByte_toNat w, loByte_toNat w⟩, ⟨exec_mov_from_m (dst := .h) nofun, exec_mov_from_m (dst := .l) nofun⟩,
    ⟨rfl, rfl, rfl, rfl, rfl, rfl, rfl, rfl, rfl, fun _ => rfl, fun _ => rfl⟩,
    ⟨s.psw_toNat, s.psw_fixed_bits⟩, s.setPsw_eq w, s.setPsw_psw w⟩

end Sys2Proof.Machine
end

section
/-! Noninterference (10_state.md R31, R39): the transformation of the two hidden bits AC and INTE commutes with every
operation of the model, so that no instruction but DAA and PUSH PSW can tell. -/

namespace Sys2Proof.Machine

variable {i : Instr} {s t : State}

/-! ### The transformation -/

def Flags.withAc (f : Flags) (ac : Bool) : Flags := { f with ac := ac }

/-- The state with other values of AC and INTE. -/
def State.withHidden (s : State) (ac inte : Bool) : State := { s with flags := s.flags.withAc ac, inte := inte }

section
variable (s : State) (f : Flags) (x v : Bool)

theorem State.withAc_eq_withHidden : s.withAc x = s.withHidden x s.inte := rfl
theorem State.setInte_eq_withHidden : s.setInte v = s.withHidden s.flags.ac v := rfl

@[simp] theorem Flags.withAc_cy : (f.withAc x).cy = f.cy := rfl
@[simp] theorem Flags.withAc_self : f.withAc f.ac = f := rfl
@[simp] theorem condHolds_withAc (cond : Cond) : condHolds cond (f.withAc x) = condHolds cond f := by
  cases cond <;> rfl
@[simp] theorem inc8_withAc (w : Byte) : inc8 w (f.withAc x) = inc8 w f := rfl
@[simp] theorem dec8_withAc (w : Byte) : dec8 w (f.withAc x) = dec8 w f := rfl

/-! ### What is read is the same -/

@[simp] theorem State.withHidden_a : (s.withHidden x v).a = s.a := rfl
@[simp] theorem State.withHidden_h : (s.withHidden x v).h = s.h := rfl
@[simp] theorem State.withHidden_l : (s.withHidden x v).l = s.l := rfl
@[simp] theorem State.withHidden_sp : (s.withHidden x v).sp = s.sp := rfl
@[simp] theorem State.withHidden_pc : (s.withHidden x v).pc = s.pc := rfl
@[simp] theorem State.withHidden_de : (s.withHidden x v).de = s.de := rfl
@[simp] theorem State.withHidden_hl : (s.withHidden x v).hl = s.hl := rfl
@[simp] theorem State.withHidden_flags : (s.withHidden x v).flags = s.flags.withAc x := rfl
@[simp] theorem State.withHidden_memKind (addr : Addr) : (s.withHidden x v).memKind addr = s.memKind addr := rfl
@[simp] theorem State.withHidden_peek (addr : Addr) : (s.withHidden x v).peek addr = s.peek addr := rfl
@[simp] theorem State.withHidden_peek16 (addr : Addr) : (s.withHidden x v).peek16 addr = s.peek16 addr :=
  State.peek16_congr (by rfl) (by rfl) (by rfl) addr
@[simp] theorem State.withHidden_aliasAddr16 : (s.withHidden x v).aliasAddr16 = s.aliasAddr16 :=
  State.withHidden_peek16 s x v _
@[simp] theorem State.withHidden_ioAnswer (port : Byte) : (s.withHidden x v).ioAnswer port = s.ioAnswer port := rfl
@[simp] theorem State.withHidden_operand (r : Reg8) : (s.withHidden x v).operand r = s.operand r := by cases r <;> rfl
@[simp] theorem State.withHidden_pair (rp : Pair) : (s.withHidden x v).pair rp = s.pair rp := by cases rp <;> rfl
@[simp] theorem State.withHidden_stackPair (rp : StackPair) : (s.withHidden x v).stackPair rp = s.stackPair rp := by
  cases rp <;> rfl
@[simp] theorem State.withHidden_indexPair (r : IndexPair) : (s.withHidden x v).indexPair r = s.indexPair r := by
  cases r <;> rfl

/-! ### Every write commutes with it -/

@[simp] theorem State.withHidden_advance (n : Addr) : (s.withHidden x v).advance n = (s.advance n).withHidden x v := rfl
@[simp] theorem State.withHidden_setPc (w : Addr) : (s.withHidden x v).setPc w = (s.setPc w).withHidden x v := rfl
@[simp] theorem State.withHidden_setSp (w : Addr) : (s.withHidden x v).setSp w = (s.setSp w).withHidden x v := rfl
@[simp] theorem State.withHidden_setA (w : Byte) : (s.withHidden x v).setA w = (s.setA w).withHidden x v := rfl
@[simp] theorem State.withHidden_setHl (w : Addr) : (s.withHidden x v).setHl w = (s.setHl w).withHidden x v := rfl
@[simp] theorem State.withHidden_setDe (w : Addr) : (s.withHidden x v).setDe w = (s.setDe w).withHidden x v := rfl
@[simp] theorem State.withHidden_setEiShadow (b : Bool) :
    (s.withHidden x v).setEiShadow b = (s.setEiShadow b).withHidden x v := rfl
@[simp] theorem State.withHidden_setHalted (b : Bool) :
    (s.withHidden x v).setHalted b = (s.setHalted b).withHidden x v := rfl
@[simp] theorem State.withHidden_ioRead (port : Byte) :
    (s.withHidden x v).ioRead port = (s.ioRead port).withHidden x v := rfl
@[simp] theorem State.withHidden_ioWrite (port w : Byte) :
    (s.withHidden x v).ioWrite port w = (s.ioWrite port w).withHidden x v := rfl
@[simp] theorem State.withHidden_raiseUndefined (op : Byte) :
    (s.withHidden x v).raiseUndefined op = (s.raiseUndefined op).withHidden x v := rfl
@[simp] theorem State.withHidden_setInte (b : Bool) : (s.withHidden x v).setInte b = (s.setInte b).withHidden x b := rfl
@[simp] theorem State.withHidden_setFlags : (s.withHidden x v).setFlags f = (s.setFlags f).withHidden f.ac v := rfl
@[simp] theorem State.withHidden_accumulate (r : AluResult) :
    (s.withHidden x v).accumulate r = (s.accumulate r).withHidden r.flags.ac v := rfl
@[simp] theorem State.withHidden_setPsw (w : Addr) :
    (s.withHidden x v).setPsw w = (s.setPsw w).withHidden (flagsOfByte (loByte w)).ac v := rfl
@[simp] theorem State.withHidden_setPair (rp : Pair) (w : Addr) :
    (s.withHidden x v).setPair rp w = (s.setPair rp w).withHidden x v := by
  cases rp <;> rfl
@[simp] theorem State.withHidden_setStackPair (rp : StackPair) (w : Addr) :
    (s.withHidden x v).setStackPair rp w = (s.setStackPair rp w).withHidden x v := by
  cases rp <;> rfl

/-- A read draws a free value by the kind of the address alone. -/
@[simp] theorem State.withHidden_touch (addr : Addr) : (s.withHidden x v).touch addr = (s.touch addr).withHidden x v := by
  simp only [State.touch, State.withHidden_memKind]
  cases s.memKind addr <;> rfl
/-- A store takes place by the kind of the address alone. -/
@[simp] theorem State.withHidden_store (addr : Addr) (w : Byte) :
    (s.withHidden x v).store addr w = (s.store addr w).withHidden x v := by
  simp only [State.store, State.withHidden_memKind]
  cases s.memKind addr <;> rfl

@[simp] theorem State.withHidden_touch16 (addr : Addr) :
    (s.withHidden x v).touch16 addr = (s.touch16 addr).withHidden x v := by
  simp [State.touch16]
@[simp] theorem State.withHidden_store16 (addr w : Addr) :
    (s.withHidden x v).store16 addr w = (s.store16 addr w).withHidden x v := by
  simp [State.store16]
@[simp] theorem State.withHidden_touchAlias : (s.withHidden x v).touchAlias = s.touchAlias.withHidden x v := by
  simp [State.touchAlias]
@[simp] theorem State.withHidden_push16 (w : Addr) : (s.withHidden x v).push16 w = (s.push16 w).withHidden x v := by
  simp [State.push16]
@[simp] theorem State.withHidden_popped : (s.withHidden x v).popped = s.popped.withHidden x v := by
  simp [State.popped]
@[simp] theorem State.withHidden_callTo (w : Addr) : (s.withHidden x v).callTo w = (s.callTo w).withHidden x v := by
  simp [State.callTo]
@[simp] theorem State.withHidden_restart (n : BitVec 3) :
    (s.withHidden x v).restart n = (s.restart n).withHidden x v := by
  simp [State.restart]
@[simp] theorem State.withHidden_returnFrom : (s.withHidden x v).returnFrom = s.returnFrom.withHidden x v := by
  simp [State.returnFrom]
@[simp] theorem State.withHidden_touchOperand (r : Reg8) :
    (s.withHidden x v).touchOperand r = (s.touchOperand r).withHidden x v := by
  cases r <;> simp [State.touchOperand]
@[simp] theorem State.withHidden_setOperand (r : Reg8) (w : Byte) :
    (s.withHidden x v).setOperand r w = (s.setOperand r w).withHidden x v := by
  cases r
  case m => exact State.withHidden_store s x v s.hl w
  all_goals rfl
@[simp] theorem State.withHidden_jumpIf (cond : Cond) (w : Addr) :
    (s.withHidden x v).jumpIf cond w = (s.jumpIf cond w).withHidden x v := by
  simp [State.jumpIf, apply_ite (State.withHidden · x v)]
@[simp] theorem State.withHidden_callIf (cond : Cond) (w : Addr) :
    (s.withHidden x v).callIf cond w = (s.callIf cond w).withHidden x v := by
  simp [State.callIf, apply_ite (State.withHidden · x v)]
@[simp] theorem State.withHidden_returnIf (cond : Cond) :
    (s.withHidden x v).returnIf cond = (s.returnIf cond).withHidden x v := by
  simp [State.returnIf, apply_ite (State.withHidden · x v)]

end

/-! ### Instructions -/

/-- AC after an instruction that began with another AC: its own where it writes AC, else the other one still. -/
def acAfter (i : Instr) (t : State) (x : Bool) : Bool := if (flagsWritten i).ac then t.flags.ac else x

/-- INTE after an instruction that began with another INTE: only EI and DI write it. -/
def inteAfter (i : Instr) (t : State) (v : Bool) : Bool := if i = .ei ∨ i = .di then t.inte else v

theorem acAfter_self (h : exec i s = .next t) : acAfter i t s.flags.ac = t.flags.ac := by
  obtain ⟨_, _, hac, _, _⟩ := exec_keepsFlags h
  by_cases hw : (flagsWritten i).ac = true
  · simp [acAfter, hw]
  · simp [acAfter, hw, hac (by simpa using hw)]

theorem inteAfter_self (h : exec i s = .next t) : inteAfter i t s.inte = t.inte := by
  by_cases hi : i = .ei ∨ i = .di
  · simp [inteAfter, hi]
  · obtain ⟨hei, hdi⟩ := not_or.1 hi
    simp [inteAfter, hi, (exec_controlFrame h).inte hei hdi]

/-- With other hidden bits an instruction does the same, unless it is one of the two that read AC and AC is another. -/
theorem exec_withHidden (h : exec i s = .next t) (x v : Bool) (hx : (i ≠ .daa ∧ i ≠ .pushPsw) ∨ x = s.flags.ac) :
    exec i (s.withHidden x v) = .next (t.withHidden (acAfter i t x) (inteAfter i t v)) := by
  cases i
  case undefined08 | undefined10 | undefined18 | undefined20 | undefined28 | undefined30 | undefined38 | undefinedCB |
      undefinedD9 | undefinedDD | undefinedED | undefinedFD =>
    obtain ⟨ha, rfl⟩ | ⟨ha, rfl⟩ := next_of_ite h
    · refine (if_pos ha).trans (congrArg Host.Outcome.next ?_)
      simp [acAfter, inteAfter, flagsWritten]
    · refine (if_neg ha).trans (congrArg Host.Outcome.next ?_)
      simp [acAfter, inteAfter, flagsWritten]
  all_goals obtain rfl := Host.Outcome.next.inj h
  case rlc | rrc | ral | rar | cmc | stc | dad => rfl
  case daa | pushPsw =>
    obtain rfl : x = s.flags.ac := hx.resolve_left (by simp)
    refine congrArg Host.Outcome.next ?_
    simp [acAfter, inteAfter, flagsWritten, State.psw]
  all_goals
    refine congrArg Host.Outcome.next ?_
    simp [acAfter, inteAfter, flagsWritten]

/-- Settles O57: each of the two bits is changed with the other left as it is. -/
theorem hiddenBitsAreNotRead : Obligations.HiddenBitsAreNotRead := by
  refine fun i s t v h => ⟨fun hdaa hpush => ⟨acAfter i t v, ?_⟩, ⟨inteAfter i t v, ?_⟩⟩
  · rw [State.withAc_eq_withHidden, State.withAc_eq_withHidden, exec_withHidden h v s.inte (.inl ⟨hdaa, hpush⟩),
      inteAfter_self h]
  · rw [State.setInte_eq_withHidden, State.setInte_eq_withHidden, exec_withHidden h s.flags.ac v (.inr rfl),
      acAfter_self h]

end Sys2Proof.Machine
end

section
/-! Memory accesses and the stack (20_memory.md R52, R53, R58, R73, R74), and what no step does to memory and IoTrace
(R53, R56). -/

namespace Sys2Proof.Machine

variable {i : Instr} {s t : State} {addr : Addr}

/-! ### One byte -/

theorem State.fitted_of_ram (hram : s.memKind addr = .ram) : s.memKind addr ≠ .none := by
  simp [hram]

/-- A store writes memory and nothing else. -/
theorem State.store_eq (s : State) (addr : Addr) (v : Byte) :
    s.store addr v = { s with mem := (s.store addr v).mem } := by
  unfold State.store
  split <;> rfl

/-- A store where there is no RAM is dropped (20_memory.md R53). -/
theorem State.store_of_not_ram (v : Byte) (hk : s.memKind addr ≠ .ram) : s.store addr v = s := by
  cases hkind : s.memKind addr
  case ram => exact absurd hkind hk
  all_goals simp [State.store, hkind]

theorem State.store_stored_of_ram (v : Byte) (hram : s.memKind addr = .ram) : (s.store addr v).stored addr = v := by
  rw [State.store_stored_same, if_pos hram]

/-- In RAM the byte stored is the byte read. -/
theorem State.store_peek_of_ram (v : Byte) (hram : s.memKind addr = .ram) : (s.store addr v).peek addr = v := by
  have hfitted : (s.store addr v).memKind addr ≠ .none := State.fitted_of_ram (by rwa [State.store_memKind])
  rw [(State.peek_of_fitted _ hfitted).1, State.store_stored_of_ram v hram]

/-- Settles O7, by the kind of memory at the address. -/
theorem byteAccessesFollowTheMemoryKind : Obligations.ByteAccessesFollowTheMemoryKind := fun s addr v =>
  ⟨s.peek_of_fitted, s.peek_of_none, fun hram => ⟨State.store_stored_of_ram v hram, State.store_peek_of_ram v hram⟩,
    State.store_of_not_ram v, fun _ hx => s.store_stored_other v hx, s.store_eq addr v⟩

/-! ### Two bytes -/

/-- A word is read where its two bytes stand, the low-order one first. -/
theorem State.peek16_of_stored {w : Addr} (hlok : s.memKind addr ≠ .none) (hhik : s.memKind (addr + 1) ≠ .none)
    (hlo : s.stored addr = loByte w) (hhi : s.stored (addr + 1) = hiByte w) : s.peek16 addr = w := by
  rw [(s.peek16_of_fitted hlok hhik).1, hhi, hlo, joinBytes_hiByte_loByte]

@[simp] theorem State.store16_memKind (s : State) (addr w x : Addr) : (s.store16 addr w).memKind x = s.memKind x :=
  State.memKind_congr (by simp) x

/-- The second of the two stores leaves the byte of the first alone. -/
theorem State.store16_stored (w : Addr) (hlo : s.memKind addr = .ram) (hhi : s.memKind (addr + 1) = .ram) :
    (s.store16 addr w).stored addr = loByte w ∧ (s.store16 addr w).stored (addr + 1) = hiByte w := by
  constructor
  · rw [State.store16, State.store_stored_other _ _ (addr_ne_succ addr), State.store_stored_of_ram _ hlo]
  · rw [State.store16, State.store_stored_of_ram _ (by rwa [State.store_memKind])]

/-- In RAM the word stored is the word read. -/
theorem State.store16_peek16 (w : Addr) (hlo : s.memKind addr = .ram) (hhi : s.memKind (addr + 1) = .ram) :
    (s.store16 addr w).peek16 addr = w := by
  obtain ⟨hlow, hhigh⟩ := State.store16_stored w hlo hhi
  exact State.peek16_of_stored (State.fitted_of_ram (by rwa [State.store16_memKind]))
    (State.fitted_of_ram (by rwa [State.store16_memKind])) hlow hhigh

theorem State.peek16_toNat_of_fitted (hlo : s.memKind addr ≠ .none) (hhi : s.memKind (addr + 1) ≠ .none) :
    (s.peek16 addr).toNat = 256 * (s.stored (addr + 1)).toNat + (s.stored addr).toNat := by
  rw [(s.peek16_of_fitted hlo hhi).1, joinBytes_toNat]

/-- Settles O8. -/
theorem wordAccessesAreTwoBytes : Obligations.WordAccessesAreTwoBytes := fun s addr w =>
  ⟨BitVec.toNat_add addr 1,
    fun hlo hhi => ⟨State.peek16_toNat_of_fitted hlo hhi, (s.peek16_of_fitted hlo hhi).2⟩,
    ⟨loByte_joinBytes _ _, hiByte_joinBytes _ _, rfl⟩, rfl, State.store16_peek16 w⟩

/-! ### The stack -/

/-- A push writes memory and SP and nothing else. -/
theorem State.push16_eq (s : State) (w : Addr) : s.push16 w = { s with mem := (s.push16 w).mem, sp := s.sp - 2 } := by
  have heq : s.push16 w = ((s.store (s.sp - 1) (hiByte w)).store (s.sp - 2) (loByte w)).setSp (s.sp - 2) := rfl
  rw [State.store_eq _ (s.sp - 2), State.store_eq s] at heq
  rw [heq]
  rfl

theorem State.touch16_eq (s : State) (addr : Addr) : ∃ e, s.touch16 addr = { s with env := e } := by
  obtain ⟨e, he⟩ := s.touch_eq addr
  rw [State.touch16, he]
  exact State.touch_eq _ (addr + 1)

/-- A pop writes SP and, of the model's own record, the counter of free values. -/
theorem State.popped_eq (s : State) : s.popped = { s with sp := s.sp + 2, env := s.popped.env } := by
  obtain ⟨e, he⟩ := s.touch16_eq s.sp
  simp only [State.popped, he, State.setSp]

@[simp] theorem State.push16_memKind (s : State) (w x : Addr) : (s.push16 w).memKind x = s.memKind x :=
  State.memKind_congr (by simp) x

theorem addr_sub_two_add_one (addr : Addr) : addr - 2 + 1 = addr - 1 := by
  bv_omega

/-- With RAM at both addresses the word pushed is the word on the stack, low-order byte at SP (20_memory.md R73). -/
theorem State.push16_peek (w : Addr) (hhi : s.memKind (s.sp - 1) = .ram) (hlo : s.memKind (s.sp - 2) = .ram) :
    (s.push16 w).peek (s.sp - 2) = loByte w ∧ (s.push16 w).peek (s.sp - 2 + 1) = hiByte w ∧
      (s.push16 w).peek16 (s.sp - 2) = w := by
  rw [← addr_sub_two_add_one] at hhi
  have hlok : (s.push16 w).memKind (s.sp - 2) ≠ .none := State.fitted_of_ram (by rwa [State.push16_memKind])
  have hhik : (s.push16 w).memKind (s.sp - 2 + 1) ≠ .none := State.fitted_of_ram (by rwa [State.push16_memKind])
  obtain ⟨hhigh, hlow⟩ := s.push16_stored w
  rw [← addr_sub_two_add_one, if_pos hhi] at hhigh
  rw [if_pos hlo] at hlow
  exact ⟨(State.peek_of_fitted _ hlok).1.trans hlow, (State.peek_of_fitted _ hhik).1.trans hhigh,
    State.peek16_of_stored hlok hhik hlow hhigh⟩

theorem State.push16_popped_sp (s : State) (w : Addr) : (s.push16 w).popped.sp = s.sp :=
  BitVec.sub_add_cancel s.sp 2

/-- SP wraps modulo 65536 both ways (10_state.md R30). -/
theorem addr_wraps (addr : Addr) :
    (addr - 1).toNat = (addr.toNat + 65535) % 65536 ∧ (addr - 2).toNat = (addr.toNat + 65534) % 65536 ∧
      (addr + 2).toNat = (addr.toNat + 2) % 65536 := by
  refine ⟨?_, ?_, BitVec.toNat_add addr 2⟩ <;> bv_omega

/-- Settles O9. -/
theorem pushAndPopAreInverse : Obligations.PushAndPopAreInverse := by
  refine fun s w => ⟨push16_pushes w, s.push16_eq w, addr_wraps s.sp, ⟨rfl, by simp, s.popped_eq, rfl⟩,
    fun hhi hlo => ?_⟩
  obtain ⟨hlow, hhigh, hword⟩ := State.push16_peek w hhi hlo
  exact ⟨hlow, hhigh, hword, s.push16_popped_sp w, by simp⟩

/-! ### Steps -/

@[simp] theorem State.fetch_mem (s : State) : s.fetch.2.mem = s.mem := by
  obtain ⟨e, he⟩ := s.fetch_keeps
  rw [he]

@[simp] theorem State.fetch_plat (s : State) : s.fetch.2.plat = s.plat := by
  obtain ⟨e, he⟩ := s.fetch_keeps
  rw [he]

@[simp] theorem State.fetch_ioTrace (s : State) : s.fetch.2.ioTrace = s.ioTrace := by
  obtain ⟨e, he⟩ := s.fetch_keeps
  rw [he]

theorem acceptInterrupt_storesOnly (n : BitVec 3) : StoresOnly s (s.acceptInterrupt n) (pushStores s) :=
  (callTo_storesOnly _).after (by rfl) (by rfl)

/-- A step changes memory by stores alone: those of its instruction, or the push of an accepted interrupt. -/
theorem step_storesOnly (h : step s = .next t) : ∃ stores, StoresOnly s t stores := by
  obtain ⟨_, ⟨_, rfl⟩ | ⟨n, _, _, rfl⟩ | ⟨_, _, _, rfl⟩ | ⟨_, _, _, hrun⟩⟩ := step_cases h
  · exact ⟨[], storesOnly_of_mem_eq (by simp) (by simp) []⟩
  · exact ⟨_, (acceptInterrupt_storesOnly n).after (by simp) (by simp)⟩
  · exact ⟨[], storesOnly_of_mem_eq (by simp) (by simp) []⟩
  · exact ⟨_, (exec_storesOnly hrun).after (by simp) (by simp)⟩

/-- From `s` to `t` IoTrace has lost nothing and gained at most one event. -/
def AtMostOneEvent (s t : State) : Prop :=
  ∃ events : List IoEvent, events.length ≤ 1 ∧ t.ioTrace = s.ioTrace ++ events

theorem atMostOneEvent_of_eq (h : t.ioTrace = s.ioTrace) : AtMostOneEvent s t :=
  ⟨[], by simp, by simpa using h⟩

/-- IN and OUT append their event; no other instruction touches IoTrace (20_memory.md R55, R56). -/
theorem exec_atMostOneEvent (h : exec i s = .next t) : AtMostOneEvent s t := by
  have keeps := (exec_controlFrame h).ioTrace
  cases i
  case inPort port =>
    obtain rfl := Host.Outcome.next.inj h
    exact ⟨[.input port (s.ioAnswer port)], by simp, rfl⟩
  case outPort port =>
    obtain rfl := Host.Outcome.next.inj h
    exact ⟨[.output port s.a], by simp, rfl⟩
  all_goals exact atMostOneEvent_of_eq (keeps nofun nofun)

/-- Only the step that runs an instruction can add an event. -/
theorem step_atMostOneEvent (h : step s = .next t) : AtMostOneEvent s t := by
  obtain ⟨_, ⟨_, rfl⟩ | ⟨n, _, _, rfl⟩ | ⟨_, _, _, rfl⟩ | ⟨_, _, _, hrun⟩⟩ := step_cases h
  · exact atMostOneEvent_of_eq (by simp)
  · exact atMostOneEvent_of_eq (by simp)
  · exact atMostOneEvent_of_eq (by simp)
  · simpa [AtMostOneEvent] using exec_atMostOneEvent hrun

/-- Settles O56. -/
theorem stepKeepsReadOnlyMemoryAndTrace : Obligations.StepKeepsReadOnlyMemoryAndTrace := by
  intro s t h
  obtain ⟨_, stores⟩ := step_storesOnly h
  exact ⟨stores.plat, stores.notRam, step_atMostOneEvent h⟩

end Sys2Proof.Machine
end

section
/-! The encoding (30_encoding.md): the decoder and the encoder undo one another; the lengths; the twelve undefined
bytes. -/

namespace Sys2Proof.Machine

variable {i : Instr} {rest : List Byte}

/-! ### The three groups of an opcode byte -/

theorem opcode_group1 (g : BitVec 2) (y z : BitVec 3) : (opcode g y z).extractLsb' 6 2 = g := by
  revert g y z; decide

theorem opcode_group2 (g : BitVec 2) (y z : BitVec 3) : (opcode g y z).extractLsb' 3 3 = y := by
  revert g y z; decide

theorem opcode_group3 (g : BitVec 2) (y z : BitVec 3) : (opcode g y z).extractLsb' 0 3 = z := by
  revert g y z; decide

theorem exists_opcode (op : Byte) : ∃ g y z, op = opcode g y z := by
  have groups : ∀ op : Byte, op = opcode (op.extractLsb' 6 2) (op.extractLsb' 3 3) (op.extractLsb' 0 3) := by decide
  exact ⟨_, _, _, groups op⟩

/-- The quadrants of the map of 30_encoding.md R92. -/
theorem quadrant_cases {motive : BitVec 2 → Prop} (g : BitVec 2) (q0 : motive 0b00) (q1 : motive 0b01) (q2 : motive 0b10)
    (q3 : motive 0b11) : motive g := by
  have hg : ∀ g : BitVec 2, g = 0b00 ∨ g = 0b01 ∨ g = 0b10 ∨ g = 0b11 := by decide
  rcases hg g with rfl | rfl | rfl | rfl
  exacts [q0, q1, q2, q3]

/-- The rows and columns of a quadrant. -/
theorem code3_cases {motive : BitVec 3 → Prop} (c : BitVec 3) (c0 : motive 0) (c1 : motive 1) (c2 : motive 2)
    (c3 : motive 3) (c4 : motive 4) (c5 : motive 5) (c6 : motive 6) (c7 : motive 7) : motive c := by
  have hc : ∀ c : BitVec 3, c = 0 ∨ c = 1 ∨ c = 2 ∨ c = 3 ∨ c = 4 ∨ c = 5 ∨ c = 6 ∨ c = 7 := by decide
  rcases hc c with rfl | rfl | rfl | rfl | rfl | rfl | rfl | rfl
  exacts [c0, c1, c2, c3, c4, c5, c6, c7]

section
variable (y z : BitVec 3) (byte2 byte3 : Byte)

theorem decodeBytes_quadrant0 : decodeBytes (opcode 0b00 y z) byte2 byte3 = decodeQuadrant0 y z byte2 byte3 := by
  simp only [decodeBytes, opcode_group1, opcode_group2, opcode_group3]; rfl

theorem decodeBytes_quadrant1 : decodeBytes (opcode 0b01 y z) byte2 byte3 = decodeQuadrant1 y z := by
  simp only [decodeBytes, opcode_group1, opcode_group2, opcode_group3]; rfl

theorem decodeBytes_quadrant2 : decodeBytes (opcode 0b10 y z) byte2 byte3 = decodeQuadrant2 y z := by
  simp only [decodeBytes, opcode_group1, opcode_group2, opcode_group3]; rfl

theorem decodeBytes_quadrant3 : decodeBytes (opcode 0b11 y z) byte2 byte3 = decodeQuadrant3 y z byte2 byte3 := by
  simp only [decodeBytes, opcode_group1, opcode_group2, opcode_group3]; rfl

end

/-! ### From an instruction to its bytes and back -/

theorem decode_of_length_one {op : Byte} (h : opcodeLength op = 1) (rest : List Byte) :
    decode (op :: rest) = .ok (decodeBytes op 0 0, rest) := by
  simp [decode, h]

theorem exists_joinBytes (w : Addr) : ∃ h l, w = joinBytes h l :=
  ⟨hiByte w, loByte w, (joinBytes_hiByte_loByte w).symm⟩

theorem ofCode_code (r : Reg8) : Reg8.ofCode r.code = r := by cases r <;> rfl

theorem code_eq_m (r : Reg8) : r.code = 0b110 ↔ r = .m := by cases r <;> decide

theorem wf_iff_ne_mov_m_m : i.wf = true ↔ i ≠ .mov .m .m := by
  cases i <;> simp [Instr.wf, imp_iff_not_or]

/-- The MOV pattern reads its two codes back, unless both are M's: that byte is HLT (30_encoding.md R89). -/
theorem decode_encode_mov {dst src : Reg8} (hwf : (Instr.mov dst src).wf = true) (rest : List Byte) :
    decode (encode (.mov dst src) ++ rest) = .ok (.mov dst src, rest) := by
  have length : ∀ y z, opcodeLength (opcode 0b01 y z) = 1 := by decide
  have hm : ¬ (dst = .m ∧ src = .m) := by simpa using wf_iff_ne_mov_m_m.1 hwf
  refine (decode_of_length_one (length _ _) rest).trans ?_
  rw [decodeBytes_quadrant1, decodeQuadrant1]
  simp only [code_eq_m, if_neg hm, ofCode_code]

theorem decode_encode_rst (exp : BitVec 3) (rest : List Byte) :
    decode (encode (.rst exp) ++ rest) = .ok (.rst exp, rest) := by
  have length : ∀ y, opcodeLength (opcode 0b11 y 0b111) = 1 := by decide
  refine (decode_of_length_one (length exp) rest).trans ?_
  rw [decodeBytes_quadrant3]
  rfl

/-- Settles O10, by the constructors: an instruction with an operand code by that code's values, one with an address by the
address's two bytes. -/
theorem decodeOfEncode : Obligations.DecodeOfEncode := by
  intro i rest hwf
  cases i
  case mov dst src => exact decode_encode_mov hwf rest
  case rst exp => exact decode_encode_rst exp rest
  case inr r | dcr r | mvi r _ | add r | adc r | sub r | sbb r | ana r | xra r | ora r | cmp r => cases r <;> rfl
  case push rp | pop rp | dad rp | inx rp | dcx rp => cases rp <;> rfl
  case stax x | ldax x => cases x <;> rfl
  case lxi rp data16 =>
    obtain ⟨h, l, rfl⟩ := exists_joinBytes data16
    simp only [encode, loByte_joinBytes, hiByte_joinBytes]
    cases rp <;> rfl
  case sta addr16 | lda addr16 | shld addr16 | lhld addr16 | jmp addr16 | jc addr16 | jnc addr16 | jz addr16 |
      jnz addr16 | jm addr16 | jp addr16 | jpe addr16 | jpo addr16 | call addr16 | cc addr16 | cnc addr16 | cz addr16 |
      cnz addr16 | cm addr16 | cp addr16 | cpe addr16 | cpo addr16 =>
    obtain ⟨h, l, rfl⟩ := exists_joinBytes addr16
    simp only [encode, loByte_joinBytes, hiByte_joinBytes]
    rfl
  all_goals rfl

/-! ### From bytes to an instruction and back -/

theorem exists_word (byte2 byte3 : Byte) : ∃ w, byte2 = loByte w ∧ byte3 = hiByte w :=
  ⟨joinBytes byte3 byte2, by simp, by simp⟩

/-- Each cell of quadrant 00, the operand bytes as the halves of one word. -/
theorem encode_decodeQuadrant0 (y z : BitVec 3) (byte2 byte3 : Byte) :
    encode (decodeQuadrant0 y z byte2 byte3) =
      [opcode 0b00 y z, byte2, byte3].take (opcodeLength (opcode 0b00 y z)) := by
  obtain ⟨w, rfl, rfl⟩ := exists_word byte2 byte3
  simp only [decodeQuadrant0, joinBytes_hiByte_loByte]
  cases z using code3_cases <;> cases y using code3_cases <;> rfl

theorem encode_decodeQuadrant1 : ∀ y z : BitVec 3,
    encode (decodeQuadrant1 y z) = [opcode 0b01 y z] ∧ opcodeLength (opcode 0b01 y z) = 1 := by
  decide

theorem encode_decodeQuadrant2 : ∀ y z : BitVec 3,
    encode (decodeQuadrant2 y z) = [opcode 0b10 y z] ∧ opcodeLength (opcode 0b10 y z) = 1 := by
  decide

/-- Each cell of quadrant 11. -/
theorem encode_decodeQuadrant3 (y z : BitVec 3) (byte2 byte3 : Byte) :
    encode (decodeQuadrant3 y z byte2 byte3) =
      [opcode 0b11 y z, byte2, byte3].take (opcodeLength (opcode 0b11 y z)) := by
  obtain ⟨w, rfl, rfl⟩ := exists_word byte2 byte3
  simp only [decodeQuadrant3, joinBytes_hiByte_loByte]
  cases z using code3_cases <;> cases y using code3_cases <;> rfl

/-- The instruction of an opcode byte encodes as that byte and the operand bytes its length asks for. -/
theorem encode_decodeBytes (op byte2 byte3 : Byte) :
    encode (decodeBytes op byte2 byte3) = [op, byte2, byte3].take (opcodeLength op) := by
  obtain ⟨g, y, z, rfl⟩ := exists_opcode op
  cases g using quadrant_cases
  case q0 => rw [decodeBytes_quadrant0, encode_decodeQuadrant0]
  case q1 =>
    obtain ⟨bytes, length⟩ := encode_decodeQuadrant1 y z
    rw [decodeBytes_quadrant1, bytes, length]
    rfl
  case q2 =>
    obtain ⟨bytes, length⟩ := encode_decodeQuadrant2 y z
    rw [decodeBytes_quadrant2, bytes, length]
    rfl
  case q3 => rw [decodeBytes_quadrant3, encode_decodeQuadrant3]

/-- MOV M,M would have HLT's byte, which decodes to HLT (90_conflicts.md C6). -/
theorem decodeBytes_wf (op byte2 byte3 : Byte) : (decodeBytes op byte2 byte3).wf = true := by
  refine wf_iff_ne_mov_m_m.2 fun hmov => ?_
  have bytes := encode_decodeBytes op byte2 byte3
  rw [hmov] at bytes
  obtain rfl : op = 0x76 := by
    rcases opcodeLength_cases op with h | h | h <;> rw [h] at bytes <;> exact (List.head_eq_of_cons_eq bytes).symm
  nomatch hmov

/-- Everything the decoder accepts: an opcode byte, the operand bytes its length asks for, the rest. -/
theorem decode_cases {bytes : List Byte} (h : decode bytes = .ok (i, rest)) :
    ∃ op byte2 byte3, i = decodeBytes op byte2 byte3 ∧ bytes = [op, byte2, byte3].take (opcodeLength op) ++ rest := by
  unfold decode at h
  split at h
  · cases h
  split at h
  case h_1 hlen => cases h; exact ⟨_, _, _, rfl, by simp [hlen]⟩
  case h_2 hlen => cases h; exact ⟨_, _, _, rfl, by simp [hlen]⟩
  case h_3 hlen => cases h; exact ⟨_, _, _, rfl, by simp [hlen]⟩
  case h_4 => cases h

theorem encode_length_of_decode {op : Byte} {bytes : List Byte} (h : decode (op :: bytes) = .ok (i, rest)) :
    (encode i).length = opcodeLength op := by
  obtain ⟨op', byte2, byte3, rfl, hbytes⟩ := decode_cases h
  rw [encode_decodeBytes]
  rcases opcodeLength_cases op' with h | h | h <;> simp_all

/-- Settles O11. -/
theorem encodeOfDecode : Obligations.EncodeOfDecode := by
  intro bytes rest i h
  obtain ⟨op, byte2, byte3, rfl, rfl⟩ := decode_cases h
  exact ⟨decodeBytes_wf op byte2 byte3, by rw [encode_decodeBytes]⟩

/-! ### Words of the table, lengths, undefined bytes -/

theorem decodesTo_of_encode {bytes : List Byte} (hwf : i.wf = true) (hbytes : encode i = bytes) : DecodesTo bytes i :=
  fun rest => hbytes ▸ decodeOfEncode i rest hwf

/-- Settles O12: each word is its instruction's encoding. -/
theorem sampleWordsDecode : Obligations.SampleWordsDecode := by
  unfold Obligations.SampleWordsDecode
  and_intros <;> exact decodesTo_of_encode rfl rfl

theorem opcodeLength_eq_three (op : Byte) : opcodeLength op = 3 ↔ op ∈ opcodesOfLength3 := by
  unfold opcodeLength
  split_ifs <;> simp_all

theorem opcodeLength_eq_two (op : Byte) : opcodeLength op = 2 ↔ op ∈ opcodesOfLength2 := by
  have disjoint : ∀ op ∈ opcodesOfLength3, op ∉ opcodesOfLength2 := by decide
  unfold opcodeLength
  split_ifs with h3 h2
  · simp [disjoint op h3]
  · simp [h2]
  · simp [h2]

/-- Settles O13. -/
theorem opcodeLengthsMatchTheTable : Obligations.OpcodeLengthsMatchTheTable :=
  ⟨fun op _ => ⟨opcodeLength_eq_three op, opcodeLength_eq_two op, opcodeLength_cases op⟩, by decide +kernel, by decide⟩

theorem decodeBytes_isUndefined {op : Byte} (hop : op ∈ undefinedOpcodes) (byte2 byte3 : Byte) :
    isUndefined (decodeBytes op byte2 byte3) = true := by
  simp only [undefinedOpcodes, List.mem_cons, List.not_mem_nil, or_false] at hop
  rcases hop with rfl | rfl | rfl | rfl | rfl | rfl | rfl | rfl | rfl | rfl | rfl | rfl <;> rfl

/-- Settles O14. -/
theorem undefinedBytesAreTwelve : Obligations.UndefinedBytesAreTwelve := fun op byte2 byte3 =>
  ⟨fun hu => undefinedRows_mem_opcodes _ (decodeBytes_mem_undefinedRows op byte2 byte3 hu),
    fun hop => decodeBytes_isUndefined hop byte2 byte3⟩

end Sys2Proof.Machine
end

section
/-! The undefined bytes with `UndocAliases` true (30_encoding.md R96), and the step that runs an instruction (R102). -/

namespace Sys2Proof.Machine

variable {i : Instr} {s t : State} {rest : List Byte}

/-! ### The aliases -/

theorem exec_nop_alias (ha : s.plat.undocAliases = true) :
    ∀ i ∈ [Instr.undefined08, .undefined10, .undefined18, .undefined20, .undefined28, .undefined30, .undefined38],
      exec i s = exec .nop s := by
  intro i hi
  simp only [List.mem_cons, List.not_mem_nil, or_false] at hi
  rcases hi with rfl | rfl | rfl | rfl | rfl | rfl | rfl <;> exact if_pos ha

theorem exec_call_alias (ha : s.plat.undocAliases = true) :
    ∀ i ∈ [Instr.undefinedDD, .undefinedED, .undefinedFD],
      exec i s = exec (.call (s.peek16 (s.pc + 1))) (s.touch16 (s.pc + 1)) := by
  intro i hi
  simp only [List.mem_cons, List.not_mem_nil, or_false] at hi
  rcases hi with rfl | rfl | rfl <;> exact if_pos ha

theorem exec_jmp_alias (ha : s.plat.undocAliases = true) :
    exec .undefinedCB s = exec (.jmp (s.peek16 (s.pc + 1))) (s.touch16 (s.pc + 1)) := if_pos ha

theorem exec_ret_alias (ha : s.plat.undocAliases = true) : exec .undefinedD9 s = exec .ret s := if_pos ha

theorem advance_inSequence (n : Addr) : InSequence s (s.advance n) n [] [] :=
  have ⟨hpc, hsp, _, hregisters, hmemory, hcontrol⟩ := advance_jumpsTo (s := s) n
  ⟨hpc, hsp, hregisters, hmemory, hcontrol⟩

theorem jumpsTo_of_touch16 {addr target : Addr} (h : JumpsTo (s.touch16 addr) t target) : JumpsTo s t target := by
  simpa [JumpsTo, keepsRegisters_iff, KeepsMemory, KeepsControl, State.stored] using h

theorem callsTo_of_touch16 {addr returnAddress target : Addr} (h : CallsTo (s.touch16 addr) t returnAddress target) :
    CallsTo s t returnAddress target := by
  simpa [CallsTo, Pushes, StoredAt, keepsRegisters_iff, KeepsMemory, KeepsControl, State.stored, State.memKind] using h

/-- Settles O45. -/
theorem undocumentedAliases : Obligations.UndocumentedAliases := by
  refine fun s ha => ⟨exec_nop_alias ha, exec_jmp_alias ha, exec_ret_alias ha, exec_call_alias ha, ?_, ?_, ?_, ?_⟩
  · exact ⟨_, exec_nop_alias ha _ (by simp), rfl, advance_inSequence 1⟩
  · exact ⟨_, exec_jmp_alias ha, jumpsTo_of_touch16 (setPc_jumpsTo 3 _)⟩
  · exact ⟨_, exec_ret_alias ha, returnFrom_returnsFrom 1⟩
  · refine ⟨_, exec_call_alias ha _ (by simp), ?_⟩
    simpa using callsTo_of_touch16 (callTo_callsTo (s := s.touch16 (s.pc + 1)) 3 (s.peek16 (s.pc + 1)))

/-! ### The step -/

theorem step_of_running (h : s.Running) : step s = runNext s.passBoundary := by
  obtain ⟨hfault, hreset, hacceptable, hhalted⟩ := h
  simp [step, hfault, hreset, hacceptable, hhalted]

/-- Where the bytes of an instruction are fitted, the fetch reads what is stored and leaves the state as it is. -/
theorem fetch_of_decode
    (hdec : decode [s.stored s.pc, s.stored (s.pc + 1), s.stored (s.pc + 2)] = .ok (i, rest))
    (hfit : ∀ k < opcodeLength (s.stored s.pc), s.memKind (s.pc + BitVec.ofNat 16 k) ≠ .none) : s.fetch = (i, s) := by
  have opcode_read (h : 0 < opcodeLength (s.stored s.pc)) : s.peek s.pc = s.stored s.pc ∧ s.touch s.pc = s :=
    s.peek_of_fitted (by simpa using hfit 0 h)
  have byte2_read (h : 1 < opcodeLength (s.stored s.pc)) :
      s.peek (s.pc + 1) = s.stored (s.pc + 1) ∧ s.touch (s.pc + 1) = s := s.peek_of_fitted (hfit 1 h)
  have byte3_read (h : 2 < opcodeLength (s.stored s.pc)) :
      s.peek (s.pc + 2) = s.stored (s.pc + 2) ∧ s.touch (s.pc + 2) = s := s.peek_of_fitted (hfit 2 h)
  rcases opcodeLength_cases (s.stored s.pc) with h | h | h
  · obtain ⟨hop, htouch⟩ := opcode_read (by omega)
    obtain ⟨rfl, -⟩ : decodeBytes (s.stored s.pc) 0 0 = i ∧ _ := by simpa [decode, h] using hdec
    rw [State.fetch_one s (by rw [hop, h]), hop, htouch]
  · obtain ⟨hop, htouch⟩ := opcode_read (by omega)
    obtain ⟨hbyte2, htouch2⟩ := byte2_read (by omega)
    obtain ⟨rfl, -⟩ : decodeBytes (s.stored s.pc) (s.stored (s.pc + 1)) 0 = i ∧ _ := by simpa [decode, h] using hdec
    rw [State.fetch_two s (by rw [hop, h]), hop, htouch, hbyte2, htouch2]
  · obtain ⟨hop, htouch⟩ := opcode_read (by omega)
    obtain ⟨hbyte2, htouch2⟩ := byte2_read (by omega)
    obtain ⟨hbyte3, htouch3⟩ := byte3_read (by omega)
    obtain ⟨rfl, -⟩ : decodeBytes (s.stored s.pc) (s.stored (s.pc + 1)) (s.stored (s.pc + 2)) = i ∧ _ := by
      simpa [decode, h] using hdec
    rw [State.fetch_three s (by rw [hop, h]), hop, htouch, hbyte2, htouch2, hbyte3, htouch3]

/-- Settles O46. -/
theorem stepRunsDecodedInstruction : Obligations.StepRunsDecodedInstruction := by
  intro s hrun
  have hstep : step s = exec s.passBoundary.fetch.1 s.passBoundary.fetch.2 := step_of_running hrun
  refine ⟨by rw [State.passBoundary_eq], ⟨fun h => ?_, fun h => ?_, fun h => ?_⟩, fun i rest _ hdec hfit => ?_⟩
  · rw [hstep, State.fetch_one _ h]
  · rw [hstep, State.fetch_two _ h]
  · rw [hstep, State.fetch_three _ h]
  · rw [encode_length_of_decode hdec] at hfit
    have hstored (addr : Addr) : s.passBoundary.stored addr = s.stored addr := by simp [State.stored]
    have hkind (addr : Addr) : s.passBoundary.memKind addr = s.memKind addr := State.memKind_congr (by simp) addr
    have hfetch : s.passBoundary.fetch = (i, s.passBoundary) :=
      fetch_of_decode (rest := rest) (by simpa [hstored] using hdec) (by simpa [hstored, hkind] using hfit)
    rw [hstep, hfetch]

end Sys2Proof.Machine
end

section
/-! The command instructions (40_command.md R110 to R118, and CMA, R132), and the halt with its two exits (R114;
60_exceptions.md R278, R280). -/

namespace Sys2Proof.Machine

variable {s t : State}

/-! ### The kinds of step -/

theorem State.acceptable_of_inte_false (hinte : s.inte = false) : s.acceptable = none := by
  simp [State.acceptable, hinte]

theorem step_of_reset (hf : s.fault = none) (hr : s.boundary.reset = true) :
    step s = .next s.passBoundary.applyReset := by
  simp [step, hf, hr]

theorem step_of_acceptable {n : BitVec 3} (hf : s.fault = none) (hr : s.boundary.reset = false)
    (hn : s.acceptable = some n) : step s = .next (s.passBoundary.acceptInterrupt n) := by
  simp [step, hf, hr, hn]

theorem step_of_idle (hf : s.fault = none) (hh : s.halted = true) (hr : s.boundary.reset = false)
    (hn : s.acceptable = none) : step s = .next { s with env := s.passBoundary.env } := by
  rw [← State.passBoundary_eq]
  simp [step, hf, hh, hr, hn]

/-! ### Restarts -/

/-- The eight targets of a restart fit in an address (40_command.md R115). -/
theorem restartTarget_toNat (n : BitVec 3) : (BitVec.ofNat 16 (8 * n.toNat)).toNat = 8 * n.toNat := by
  rw [BitVec.toNat_ofNat]
  omega

theorem restart_callsTo (n : Addr) (exp : BitVec 3) :
    CallsTo s ((s.advance n).restart exp) (s.pc + n) (BitVec.ofNat 16 (8 * exp.toNat)) :=
  callTo_callsTo n _

/-- Acceptance pushes PC without advancing it (60_exceptions.md R278). -/
theorem acceptInterrupt_pushes (n : BitVec 3) : Pushes s (s.acceptInterrupt n) s.pc :=
  push16_pushes (s := ((s.setInte false).setHalted false).setEiShadow false) s.pc

theorem pushes_of_passBoundary {w : Addr} (h : Pushes s.passBoundary t w) : Pushes s t w := by
  rw [State.passBoundary_eq] at h
  exact h

/-- An interrupt accepted at this boundary ends the halt and saves where it was (40_command.md R114). -/
theorem passBoundary_acceptInterrupt_spec (s : State) (n : BitVec 3) :
    (s.passBoundary.acceptInterrupt n).halted = false ∧ (s.passBoundary.acceptInterrupt n).pc.toNat = 8 * n.toNat ∧
      Pushes s (s.passBoundary.acceptInterrupt n) s.pc := by
  obtain ⟨_, hhalted, _, hpc, _⟩ := s.passBoundary.acceptInterrupt_spec n
  have hpush := pushes_of_passBoundary (acceptInterrupt_pushes (s := s.passBoundary) n)
  exact ⟨hhalted, by rw [hpc, restartTarget_toNat], by simpa using hpush⟩

/-! ### The halt -/

/-- Of the four things a step can be, the idle keeps the halt and the next instruction needs there to be none (40_command.md
R114). -/
theorem step_ends_halt (hh : s.halted = true) (h : step s = .next t) (ht : t.halted = false) :
    s.boundary.reset = true ∨ ∃ n, s.acceptable = some n := by
  obtain ⟨_, ⟨hr, _⟩ | ⟨n, _, hn, _⟩ | ⟨_, _, _, rfl⟩ | ⟨_, _, hrun, _⟩⟩ := step_cases h
  · exact .inl hr
  · exact .inr ⟨n, hn⟩
  · simp [hh] at ht
  · simp [hh] at hrun

/-- Settles O17, by the kinds of step a halted machine can take. -/
theorem haltWaitsForInterruptOrReset : Obligations.HaltWaitsForInterruptOrReset := by
  refine fun s => ⟨decodesTo_of_encode rfl rfl, rfl, step_of_idle, fun hf hh hinte hr => ?_, fun n hf _ hr hn => ?_,
    fun hf _ hr => ?_, fun t hh h ht => ?_⟩
  · exact step_of_idle hf hh hr (State.acceptable_of_inte_false hinte)
  · exact ⟨_, step_of_acceptable hf hr hn, passBoundary_acceptInterrupt_spec s n⟩
  · obtain ⟨hpc, _, hhalted, _⟩ := s.passBoundary.applyReset_spec
    exact ⟨_, step_of_reset hf hr, hhalted, hpc⟩
  · obtain hr | ⟨n, hn⟩ := step_ends_halt hh h ht
    · exact .inl hr
    · obtain ⟨hinte, hei, hrequest⟩ := (State.acceptable_eq_some n).1 hn
      exact .inr ⟨hinte, hei, by simp [hrequest]⟩

/-! ### Ports, interrupts, restart -/

theorem State.ioAnswer_of_unscripted (port : Byte) (hin : s.env.inputs = []) :
    s.ioAnswer port = Config.ioRead s.ioTrace port := by
  simp [State.ioAnswer, hin]

theorem State.ioAnswer_of_scripted (port : Byte) {v : Byte} {vs : List Byte} (hin : s.env.inputs = v :: vs) :
    s.ioAnswer port = v := by
  simp [State.ioAnswer, hin]

/-- An IN uses up the answer it is given. -/
@[simp] theorem State.ioRead_inputs (s : State) (port : Byte) : (s.ioRead port).env.inputs = s.env.inputs.tail := rfl

/-- Settles O15. -/
theorem inAndOut : Obligations.InAndOut := by
  refine fun port s => ⟨decodesTo_of_encode rfl rfl, decodesTo_of_encode rfl rfl, ⟨_, rfl, rfl, ?_, ?_, ?_⟩,
    ⟨_, rfl, rfl, ?_⟩⟩
  · exact State.ioAnswer_of_unscripted port
  · exact fun v vs hin => ⟨State.ioAnswer_of_scripted port hin, by simp [hin]⟩
  · simp [keepsRegisters_iff]
  · simp [keepsRegisters_iff]

/-- Settles O16: after EI the shadow holds interrupts off, after DI the cleared INTE does. -/
theorem enableAndDisableInterrupts : Obligations.EnableAndDisableInterrupts := by
  refine fun s => ⟨decodesTo_of_encode rfl rfl, decodesTo_of_encode rfl rfl, rfl, rfl, fun t h => ?_⟩
  obtain h | h := h <;> obtain rfl := Host.Outcome.next.inj h
  · exact State.acceptable_of_eiShadow rfl
  · exact State.acceptable_of_inte_false rfl

/-- Settles O18. -/
theorem restartCallsEightTimesNumber : Obligations.RestartCallsEightTimesNumber := fun exp _ =>
  ⟨decodesTo_of_encode rfl rfl, _, rfl, restart_callsTo 1 exp, restartTarget_toNat exp⟩

/-! ### CMC, STC, NOP, CMA -/

theorem setFlags_inSequence (n : Addr) (f : Flags) : InSequence s ((s.advance n).setFlags f) n [] [] :=
  ⟨rfl, rfl, by simp [keepsRegisters_iff], keepsMemory_of_mem_eq (by rfl) [], by simp [KeepsControl]⟩

theorem setA_inSequence (n : Addr) (v : Byte) : InSequence s ((s.advance n).setA v) n [.a] [] :=
  ⟨rfl, rfl, by simp [keepsRegisters_iff], keepsMemory_of_mem_eq (by rfl) [], by simp [KeepsControl]⟩

/-- Settles O19. -/
theorem carryBitComplementAndNop : Obligations.CarryBitComplementAndNop := by
  refine fun s => ⟨decodesTo_of_encode rfl rfl, decodesTo_of_encode rfl rfl, decodesTo_of_encode rfl rfl,
    decodesTo_of_encode rfl rfl, ?_, ?_, ?_, ?_⟩
  · exact ⟨_, rfl, rfl, setFlags_inSequence 1 _⟩
  · exact ⟨_, rfl, rfl, setFlags_inSequence 1 _⟩
  · exact ⟨_, rfl, rfl, advance_inSequence 1⟩
  · exact ⟨_, rfl, BitVec.toNat_not, rfl, setA_inSequence 1 _⟩

end Sys2Proof.Machine
end

section
/-! The single register instructions (41_single_register.md R130, R131, R133): INR, DCR, DAA, and decimal addition. -/

namespace Sys2Proof.Machine

variable {i : Instr} {s t u : State} {v : Byte}

/-! ### Instructions that go on in sequence -/

/-- Neither a branch nor an undefined byte, and none of the five instructions that write INTE, HALTED or IoTrace. -/
def ordinary : Instr → Bool
  | .ei | .di | .hlt | .inPort _ | .outPort _ => false
  | i => !branches i && !isUndefined i

/-- The frame of every ordinary instruction that leaves SP alone, from the frame of each part of the state. -/
theorem exec_inSequence (h : exec i s = .next t) (ho : ordinary i = true) (hsp : writesSp i s = false) :
    InSequence s t (BitVec.ofNat 16 (encode i).length) (registersWritten i) (storeAddresses i s) := by
  have frame := exec_controlFrame h
  have stores := exec_storesOnly h
  unfold ordinary at ho
  split at ho
  case h_6 _ hei hdi hhlt hin hout =>
    obtain ⟨hb, hu⟩ : branches i = false ∧ isUndefined i = false := by simpa using ho
    have hc : isUndefined i = true → s.plat.undocAliases = true := by simp [hu]
    have hshadow : t.eiShadow = false := Bool.eq_false_iff.2 fun he => hei ((frame.eiShadow hc).1 he)
    exact ⟨exec_pc h hb hc, exec_keepsSp h hsp, exec_keepsRegisters h, stores.others,
      frame.inte hei hdi, frame.halted hhlt, frame.fault hc, frame.ioTrace hin hout, stores.plat, hshadow⟩
  all_goals nomatch ho

/-! ### An operand read, then written -/

/-- What INR and DCR do with the result computed from their operand. -/
def State.rewriteOperand (s : State) (r : Reg8) (res : AluResult) : State :=
  (((s.advance 1).touchOperand r).setFlags res.flags).setOperand r res.value

theorem exec_inr (r : Reg8) (s : State) : exec (.inr r) s = .next (s.rewriteOperand r (inc8 (s.operand r) s.flags)) := rfl

theorem exec_dcr (r : Reg8) (s : State) : exec (.dcr r) s = .next (s.rewriteOperand r (dec8 (s.operand r) s.flags)) := rfl

@[simp] theorem State.rewriteOperand_flags (s : State) (r : Reg8) (res : AluResult) :
    (s.rewriteOperand r res).flags = res.flags := by
  simp [State.rewriteOperand]

/-- The value written is the value read next; for M only where there is RAM at HL (20_memory.md R53). -/
theorem State.setOperand_operand {r : Reg8} (hram : r = .m → s.memKind s.hl = .ram) :
    (s.setOperand r v).operand r = v := by
  by_cases hr : r = .m
  · subst hr
    have hhl : (s.store s.hl v).hl = s.hl := by simp [State.hl]
    rw [State.setOperand, State.operand, hhl, State.store_peek_of_ram v (hram rfl)]
  · exact s.setOperand_same r v hr

theorem State.rewriteOperand_operand {r : Reg8} (res : AluResult) (hram : r = .m → s.memKind s.hl = .ram) :
    (s.rewriteOperand r res).operand r = res.value := by
  refine State.setOperand_operand fun hr => ?_
  simpa [State.hl, State.memKind] using hram hr

/-- A store after reads and register moves is still a store (20_memory.md R53). -/
theorem store_storedAt_after (hm : u.mem = s.mem) (hp : u.plat = s.plat) (addr : Addr) (v : Byte) :
    StoredAt s (u.store addr v) addr v := by
  have hstored : u.stored addr = s.stored addr := by simp only [State.stored, hm]
  rw [StoredAt, State.store_stored_same, State.memKind_congr hp, hstored]

theorem rewriteOperand_receives (r : Reg8) (res : AluResult) : Receives s (s.rewriteOperand r res) r res.value := by
  by_cases hr : r = .m
  · subst hr
    rw [Receives, if_pos rfl]
    have hhl : (((s.advance 1).touchOperand .m).setFlags res.flags).hl = s.hl := by simp [State.hl]
    rw [State.rewriteOperand, State.setOperand, hhl]
    exact store_storedAt_after (by simp) (by simp) s.hl res.value
  · rw [Receives, if_neg hr]
    exact State.rewriteOperand_operand res fun hm => absurd hm hr

/-! ### INR and DCR -/

theorem inc8_value_toNat (v : Byte) (f : Flags) : (inc8 v f).value.toNat = (v.toNat + 1) % 256 := BitVec.toNat_add v 1

theorem dec8_value_toNat (v : Byte) (f : Flags) : (dec8 v f).value.toNat = (v.toNat + 255) % 256 := by
  change (v - 1).toNat = _
  bv_omega

theorem dec8_ac (v : Byte) (f : Flags) : (dec8 v f).flags.ac = decide (v.toNat % 16 ≠ 0) := by
  simp [dec8, setSzp]

/-- Settles O20. -/
theorem incrementAndDecrement : Obligations.IncrementAndDecrement := by
  refine fun dst s => ⟨decodesTo_of_encode rfl rfl, decodesTo_of_encode rfl rfl, ⟨_, _, exec_inr dst s,
    inc8_value_toNat _ s.flags, rewriteOperand_receives _ _, ?_⟩, ⟨_, _, exec_dcr dst s, dec8_value_toNat _ s.flags,
    rewriteOperand_receives _ _, ?_⟩⟩
  · rw [State.rewriteOperand_flags]
    exact ⟨setSzp_resultFlags _ _, rfl, rfl, exec_inSequence (exec_inr dst s) rfl rfl⟩
  · rw [State.rewriteOperand_flags]
    exact ⟨setSzp_resultFlags _ _, rfl, dec8_ac _ _, exec_inSequence (exec_dcr dst s) rfl rfl⟩

/-! ### DAA -/

theorem daaLow_iff (a : Byte) (f : Flags) : daaLow a f = true ↔ a.toNat % 16 > 9 ∨ f.ac = true := by
  simp [daaLow, or_comm]

theorem daaHigh_iff (a : Byte) (f : Flags) :
    daaHigh a f = true ↔ f.cy = true ∨ a.toNat / 16 > 9 ∨ (a.toNat / 16 ≥ 9 ∧ a.toNat % 16 > 9) := by
  simp [daaHigh, or_assoc]

/-- The byte after the first step of the two-step description, not yet reduced. -/
def daaFirst (a : Byte) (f : Flags) : Nat := if daaLow a f then a.toNat + 6 else a.toNat

/-- The test of the one correcting addition is the test of the second step: 6 reaches the high nibble only from a low
nibble above 9 (41_single_register.md R133). -/
theorem daaHigh_iff_daaFirst (a : Byte) (f : Flags) :
    daaHigh a f = true ↔ f.cy = true ∨ daaFirst a f % 256 / 16 > 9 ∨ daaFirst a f > 255 := by
  have ha := a.isLt
  rw [daaHigh_iff, daaFirst]
  refine or_congr_right ?_
  split
  · omega
  next hl =>
    have hlow : ¬ a.toNat % 16 > 9 := fun h => hl ((daaLow_iff a f).2 (.inl h))
    omega

theorem daa8_value_toNat (a : Byte) (f : Flags) :
    (daa8 a f).value.toNat = (daaFirst a f + if daaHigh a f then 0x60 else 0) % 256 := by
  unfold daaFirst
  cases hl : daaLow a f <;> simp [daa8, hl, Nat.add_assoc]

theorem daa8_cy (a : Byte) (f : Flags) : (daa8 a f).flags.cy = daaHigh a f := by
  cases hcy : f.cy <;> simp [daa8, setSzp, daaHigh, hcy]

/-- The addition of 60H does not reach the low nibble. -/
theorem daa8_ac (a : Byte) (f : Flags) : (daa8 a f).flags.ac = decide (a.toNat % 16 > 9) := by
  have hac : (daa8 a f).flags.ac =
      decide (a.toNat % 16 + ((if daaLow a f then 0x06 else 0) + (if daaHigh a f then 0x60 else 0)) % 16 > 0x0F) := rfl
  rw [hac, decide_eq_decide]
  by_cases hl : daaLow a f = true
  · rw [if_pos hl]
    split <;> omega
  · have hlow : ¬ a.toNat % 16 > 9 := fun h => hl ((daaLow_iff a f).2 (.inl h))
    rw [if_neg hl]
    split <;> omega

theorem decimalAdjustInTwoSteps_eq (a : Byte) (f : Flags) :
    decimalAdjustInTwoSteps a f.ac f.cy =
      ((daaFirst a f + if daaHigh a f then 0x60 else 0) % 256, daaHigh a f) := by
  have hfirst : (if a.toNat % 16 > 9 ∨ f.ac = true then a.toNat + 6 else a.toNat) = daaFirst a f := by
    simp only [daaFirst, daaLow_iff]
  have hhigh : (daaFirst a f % 256 / 16 > 9 ∨ (f.cy || decide (daaFirst a f > 255)) = true) ↔ daaHigh a f = true := by
    simp [daaHigh_iff_daaFirst, or_left_comm]
  simp only [decimalAdjustInTwoSteps, hfirst, hhigh]
  split
  next hh => simp [hh]
  next hh =>
    obtain ⟨hcy, _, hover⟩ : f.cy ≠ true ∧ ¬ daaFirst a f % 256 / 16 > 9 ∧ ¬ daaFirst a f > 255 := by
      simpa only [daaHigh_iff_daaFirst, not_or] using hh
    simp [hh, hcy, hover]

/-- Settles O21: each test of the one correcting addition is a test of the two steps. (The name the obligation would give
this theorem is the model's `decimalAdjustInTwoSteps`.) -/
theorem daa_decimalAdjustInTwoSteps : Obligations.DecimalAdjustInTwoSteps := by
  refine fun s => ⟨decodesTo_of_encode rfl rfl, _, rfl, ?_, daa8_ac s.a s.flags, fun hcy => ?_, setSzp_resultFlags _ _,
    exec_inSequence (i := .daa) rfl rfl rfl⟩
  · rw [decimalAdjustInTwoSteps_eq, State.accumulate_a, State.accumulate_flags, daa8_value_toNat, daa8_cy]
  · exact (daa8_cy s.a s.flags).trans ((daaHigh_iff s.a s.flags).2 (.inl hcy))

/-! ### Decimal addition -/

theorem packedDecimal_toNat {n : Nat} (hn : n < 100) : (packedDecimal n).toNat = 16 * (n / 10) + n % 10 := by
  rw [packedDecimal, BitVec.toNat_ofNat]
  omega

/-- DAA on the binary sum of two packed numbers, whose low digits and carry add up to `low` and whose high digits add up to
`high`: the digits of the decimal sum. -/
theorem daa8_of_digit_sums {a : Byte} {f : Flags} {low high : Nat} (hlow : low ≤ 19) (hhigh : high ≤ 18)
    (ha : a.toNat = (16 * high + low) % 256) (hac : f.ac = decide (low > 15)) (hcy : f.cy = decide (16 * high + low > 255)) :
    (daa8 a f).value.toNat / 16 ≤ 9 ∧ (daa8 a f).value.toNat % 16 ≤ 9 ∧
      100 * (daa8 a f).flags.cy.toNat + 10 * ((daa8 a f).value.toNat / 16) + (daa8 a f).value.toNat % 16 =
        10 * high + low := by
  have hl : daaLow a f = decide (low > 9) := by
    rw [Bool.eq_iff_iff, daaLow_iff, hac, decide_eq_true_iff, decide_eq_true_iff]
    omega
  have hh : daaHigh a f = decide (10 * high + low > 99) := by
    rw [Bool.eq_iff_iff, daaHigh_iff, hcy, decide_eq_true_iff, decide_eq_true_iff]
    omega
  rw [daa8_value_toNat, daa8_cy, daaFirst, hl, hh]
  simp only [decide_eq_true_iff, Bool.toNat, Bool.cond_decide]
  split <;> split <;> omega

/-- Settles O58. -/
theorem decimalAdditionIsExact : Obligations.DecimalAdditionIsExact := by
  intro x y src s hx hy ha hoperand
  have hcin := s.flags.cy.toNat_le
  have hxp := packedDecimal_toNat hx
  have hyp := packedDecimal_toNat hy
  obtain ⟨hvalue, hcy, hac, _⟩ := add8_isSum (packedDecimal x) (packedDecimal y) s.flags.cy
  refine ⟨_, _, rfl, rfl, ?_⟩
  simp only [State.accumulate_a, State.accumulate_flags, ha, hoperand]
  obtain ⟨hhigh, hlow, hsum⟩ := daa8_of_digit_sums
    (a := (add8 (packedDecimal x) (packedDecimal y) s.flags.cy).value)
    (f := (add8 (packedDecimal x) (packedDecimal y) s.flags.cy).flags)
    (low := x % 10 + y % 10 + s.flags.cy.toNat) (high := x / 10 + y / 10)
    (by omega) (by omega) (by omega) (by rw [hac, decide_eq_decide]; omega) (by rw [hcy, decide_eq_decide]; omega)
  exact ⟨hhigh, hlow, by omega⟩

end Sys2Proof.Machine
end

section
/-! Instructions that undo one another (R130 to R132, R145, R146, R160 to R163). RLC and RRC turn the eight bits of A by one
place, RAL and RAR the ring of nine bits that CY and A make; a ring of w bits is back where it was after w turns. -/

namespace Sys2Proof.Machine

variable {i : Instr} {s : State}

/-! ### Turning a ring of bits -/

theorem getMsbD_iterate_rotateLeft {w k : Nat} (x : BitVec w) (n : Nat) (hk : k < w) :
    ((BitVec.rotateLeft · 1)^[n] x).getMsbD k = x.getMsbD ((n + k) % w) := by
  induction n generalizing k with
  | zero => simp [Nat.mod_eq_of_lt hk]
  | succ n ih =>
    rw [Function.iterate_succ_apply', BitVec.getMsbD_rotateLeft, decide_eq_true hk, Bool.true_and,
      ih (Nat.mod_lt _ (by omega)), Nat.add_mod_mod, Nat.add_assoc]

/-- A ring of w bits is back where it was after w turns to the left. -/
theorem iterate_rotateLeft_width {w : Nat} (x : BitVec w) : (BitVec.rotateLeft · 1)^[w] x = x := by
  refine BitVec.eq_of_getMsbD_eq fun k hk => ?_
  rw [getMsbD_iterate_rotateLeft x w hk, Nat.add_mod_left, Nat.mod_eq_of_lt hk]

/-- One turn to the right undoes one to the left. A ring of one bit stays as it is. -/
theorem rotateRight_one_leftInverse {w : Nat} :
    Function.LeftInverse (BitVec.rotateRight · 1) (BitVec.rotateLeft (w := w) · 1) := by
  intro x
  ext k hk
  simp only [BitVec.getElem_rotateRight, BitVec.getElem_rotateLeft]
  obtain hw | hw : w = 1 ∨ 1 < w := by omega
  · have hmod : 1 % w = 0 := by simp [hw]
    grind
  · have hmod : 1 % w = 1 := Nat.mod_eq_of_lt hw
    grind

/-- So it is after w turns to the right, which undo them. -/
theorem iterate_rotateRight_width {w : Nat} (x : BitVec w) : (BitVec.rotateRight · 1)^[w] x = x := by
  calc (BitVec.rotateRight · 1)^[w] x
      = (BitVec.rotateRight · 1)^[w] ((BitVec.rotateLeft · 1)^[w] x) := by rw [iterate_rotateLeft_width]
    _ = x := (rotateRight_one_leftInverse.iterate w) x

/-! ### One rotate -/

/-- RAL (R162) moves the bits of A up by one place. -/
theorem rotateLeftCarry_value (a : Byte) (f : Flags) : (rotateLeftCarry a f).value = (a.setWidth 7).concat f.cy := by
  apply BitVec.eq_of_toNat_eq
  have ha := a.isLt
  have hcy := f.cy.toNat_le
  simp only [rotateLeftCarry, BitVec.toNat_ofNat, BitVec.toNat_concat, BitVec.toNat_setWidth]
  omega

/-- RAR (R163) moves the bits of A down by one place. -/
theorem rotateRightCarry_value (a : Byte) (f : Flags) :
    (rotateRightCarry a f).value = BitVec.cons f.cy (a.extractLsb' 1 7) := by
  apply BitVec.eq_of_toNat_eq
  have ha := a.isLt
  have hcy := f.cy.toNat_le
  rw [BitVec.toNat_cons']
  simp only [rotateRightCarry, BitVec.toNat_ofNat, BitVec.extractLsb'_toNat, Nat.shiftRight_eq_div_pow, Nat.shiftLeft_eq]
  omega

/-- RLC (R160) moves bit 7 where RAL moves the old CY. -/
theorem rotateLeft_value (a : Byte) (f : Flags) : (rotateLeft a f).value = a.rotateLeft 1 := by
  refine (rotateLeftCarry_value a { f with cy := a.getLsbD 7 }).trans ?_
  ext k hk
  rw [BitVec.getElem_concat, BitVec.getElem_rotateLeft]
  grind

/-- RRC (R161) moves bit 0 where RAR moves the old CY. -/
theorem rotateRight_value (a : Byte) (f : Flags) : (rotateRight a f).value = a.rotateRight 1 := by
  refine (rotateRightCarry_value a { f with cy := a.getLsbD 0 }).trans ?_
  ext k hk
  rw [BitVec.getElem_cons, BitVec.getElem_rotateRight]
  grind

/-- The bit in CY after RLC is the one that has come in at the bottom. -/
theorem rotateLeft_eq (a : Byte) (f : Flags) :
    rotateLeft a f = { value := a.rotateLeft 1, flags := { f with cy := (a.rotateLeft 1).getLsbD 0 } } := by
  have hcy : (a.rotateLeft 1).getLsbD 0 = a.getLsbD 7 := by simp
  rw [hcy, ← rotateLeft_value a f]
  rfl

/-- The bit in CY after RRC is the one that has come in at the top. -/
theorem rotateRight_eq (a : Byte) (f : Flags) :
    rotateRight a f = { value := a.rotateRight 1, flags := { f with cy := (a.rotateRight 1).getLsbD 7 } } := by
  have hcy : (a.rotateRight 1).getLsbD 7 = a.getLsbD 0 := by simp
  rw [hcy, ← rotateRight_value a f]
  rfl

/-! ### Rotates repeated -/

/-- An operation on A and the flags, applied to what one before it has left. -/
def rerun (op : Byte → Flags → AluResult) (r : AluResult) : AluResult := op r.value r.flags

theorem accumulate_advance_accumulate (m n : Addr) (r r' : AluResult) :
    (((s.advance m).accumulate r).advance n).accumulate r' = (s.advance (m + n)).accumulate r' := by
  simp [State.advance, State.accumulate, State.setPc, State.setEiShadow, State.setFlags, State.setA, BitVec.add_assoc]

/-- A one-byte instruction on A and the flags, executed again and again: only the operation is repeated. -/
theorem execTimes_accumulate {op : Byte → Flags → AluResult}
    (hi : ∀ s, exec i s = .next ((s.advance 1).accumulate (op s.a s.flags))) (n : Nat) (s : State) :
    execTimes i (n + 1) s =
      .next ((s.advance (BitVec.ofNat 16 (n + 1))).accumulate
        ((rerun op)^[n + 1] { value := s.a, flags := s.flags })) := by
  induction n generalizing s with
  | zero => exact execTimes_succ (hi s) 0
  | succ n ih =>
    have hcount : 1 + BitVec.ofNat 16 (n + 1) = BitVec.ofNat 16 (n + 1 + 1) := by
      rw [BitVec.add_comm, BitVec.ofNat_add (n + 1) 1]
      rfl
    rw [execTimes_succ (hi s), ih, accumulate_advance_accumulate, hcount, Function.iterate_succ_apply]
    rfl

/-- A turn of A's eight bits that leaves in CY the bit it moved: repeated, it leaves there the bit it moved last. -/
theorem iterate_rerun {op : Byte → Flags → AluResult} {turn : Byte → Byte} {out : Nat}
    (hop : ∀ a f, op a f = { value := turn a, flags := { f with cy := (turn a).getLsbD out } }) (n : Nat) (a : Byte)
    (f : Flags) :
    (rerun op)^[n + 1] { value := a, flags := f } =
      { value := turn^[n + 1] a, flags := { f with cy := (turn^[n + 1] a).getLsbD out } } := by
  induction n with
  | zero => exact hop a f
  | succ n ih => rw [Function.iterate_succ_apply', ih, rerun, hop, ← Function.iterate_succ_apply' turn]

theorem iterate_rerun_rotateLeft (a : Byte) (f : Flags) :
    (rerun rotateLeft)^[8] { value := a, flags := f } = { value := a, flags := { f with cy := a.getLsbD 0 } } := by
  rw [iterate_rerun rotateLeft_eq 7, iterate_rotateLeft_width]

theorem iterate_rerun_rotateRight (a : Byte) (f : Flags) :
    (rerun rotateRight)^[8] { value := a, flags := f } = { value := a, flags := { f with cy := a.getLsbD 7 } } := by
  rw [iterate_rerun rotateRight_eq 7, iterate_rotateRight_width]

/-! ### The ring of CY and A -/

/-- A and CY from a ring of nine bits, CY on top; the other flags are those given. -/
def ofRing (f : Flags) (w : BitVec 9) : AluResult := { value := w.setWidth 8, flags := { f with cy := w.getLsbD 8 } }

theorem exists_ofRing (r : AluResult) : ∃ w, ofRing r.flags w = r := by
  have hcy : (BitVec.cons r.flags.cy r.value).getLsbD 8 = r.flags.cy := by rw [BitVec.getLsbD_cons, if_pos rfl]
  refine ⟨BitVec.cons r.flags.cy r.value, ?_⟩
  rw [ofRing, BitVec.setWidth_cons, hcy]

/-- RAL turns the ring to the left. -/
theorem ofRing_rotateLeft (f : Flags) : Function.Semiconj (ofRing f) (BitVec.rotateLeft · 1) (rerun rotateLeftCarry) := by
  intro w
  have hvalue : (rerun rotateLeftCarry (ofRing f w)).value = (w.rotateLeft 1).setWidth 8 := by
    rw [rerun, rotateLeftCarry_value]
    ext k hk
    simp only [ofRing, BitVec.getElem_concat, BitVec.getElem_setWidth, BitVec.getLsbD_rotateLeft]
    grind
  have hcy : (w.rotateLeft 1).getLsbD 8 = (w.setWidth 8).getLsbD 7 := by simp
  rw [ofRing, ← hvalue, hcy]
  rfl

/-- RAR turns the ring to the right. -/
theorem ofRing_rotateRight (f : Flags) :
    Function.Semiconj (ofRing f) (BitVec.rotateRight · 1) (rerun rotateRightCarry) := by
  intro w
  have hvalue : (rerun rotateRightCarry (ofRing f w)).value = (w.rotateRight 1).setWidth 8 := by
    rw [rerun, rotateRightCarry_value]
    ext k hk
    simp only [ofRing, BitVec.getElem_cons, BitVec.getElem_setWidth, BitVec.getElem_extractLsb',
      BitVec.getLsbD_rotateRight]
    grind
  have hcy : (w.rotateRight 1).getLsbD 8 = (w.setWidth 8).getLsbD 0 := by simp
  rw [ofRing, ← hvalue, hcy]
  rfl

theorem iterate_rerun_rotateLeftCarry (r : AluResult) : (rerun rotateLeftCarry)^[9] r = r := by
  obtain ⟨w, hw⟩ := exists_ofRing r
  rw [← hw, ← (ofRing_rotateLeft r.flags).iterate_right 9 w, iterate_rotateLeft_width]

theorem iterate_rerun_rotateRightCarry (r : AluResult) : (rerun rotateRightCarry)^[9] r = r := by
  obtain ⟨w, hw⟩ := exists_ofRing r
  rw [← hw, ← (ofRing_rotateRight r.flags).iterate_right 9 w, iterate_rotateRight_width]

theorem rotateRightCarry_rotateLeftCarry (r : AluResult) : rerun rotateRightCarry (rerun rotateLeftCarry r) = r := by
  obtain ⟨w, hw⟩ := exists_ofRing r
  rw [← hw, ← ofRing_rotateLeft, ← ofRing_rotateRight, rotateRight_one_leftInverse]

/-- The bit that RLC moved to CY is the one that RRC moves back. -/
theorem rerun_rotateRight_rotateLeft (a : Byte) (f : Flags) :
    rerun rotateRight (rotateLeft a f) = { value := a, flags := { f with cy := a.getLsbD 7 } } := by
  have hback : (a.rotateLeft 1).rotateRight 1 = a := rotateRight_one_leftInverse a
  simp only [rerun, rotateRight_eq, rotateLeft_eq, hback]

/-! ### Instructions that undo one another -/

/-- INR M leaves RAM where HL points for the DCR M that follows. -/
theorem State.rewriteOperand_keepsRam {r : Reg8} (res : AluResult) (hram : r = .m → s.memKind s.hl = .ram) :
    r = .m → (s.rewriteOperand r res).memKind (s.rewriteOperand r res).hl = .ram := by
  rintro rfl
  have hhl : (s.rewriteOperand .m res).hl = s.hl := by simp [State.rewriteOperand, State.setOperand, State.hl]
  have hplat : (s.rewriteOperand .m res).plat = s.plat := by simp [State.rewriteOperand]
  rw [hhl, State.memKind_congr hplat]
  exact hram rfl

theorem dec8_inc8_value (v : Byte) (f g : Flags) : (dec8 (inc8 v f).value g).value = v := BitVec.add_sub_cancel v 1

theorem dec8_inc8_ac (v : Byte) (f g : Flags) : (dec8 (inc8 v f).value g).flags.ac = decide (v.toNat % 16 ≠ 15) := by
  rw [dec8_ac, inc8_value_toNat, decide_eq_decide]
  omega

theorem dec8_resultFlags (v : Byte) (f : Flags) : ResultFlags (dec8 v f).value (dec8 v f).flags := setSzp_resultFlags _ _

theorem dcr_inr (r : Reg8) (s : State) (hram : r = .m → s.memKind s.hl = .ram) :
    ∃ t u, exec (.inr r) s = .next t ∧ exec (.dcr r) t = .next u ∧ u.operand r = s.operand r ∧
      u.flags.cy = s.flags.cy ∧ ResultFlags (s.operand r) u.flags ∧
      u.flags.ac = decide ((s.operand r).toNat % 16 ≠ 15) := by
  have hoperand := State.rewriteOperand_operand (inc8 (s.operand r) s.flags) hram
  have hflags := dec8_resultFlags (inc8 (s.operand r) s.flags).value (inc8 (s.operand r) s.flags).flags
  rw [dec8_inc8_value] at hflags
  refine ⟨_, _, exec_inr r s, exec_dcr r _, ?_⟩
  rw [State.rewriteOperand_operand _ (State.rewriteOperand_keepsRam _ hram), hoperand]
  simp only [State.rewriteOperand_flags]
  exact ⟨dec8_inc8_value _ _ _, rfl, hflags, dec8_inc8_ac _ _ _⟩

@[simp] theorem State.setPair_pair (s : State) (rp : Pair) (w : Addr) : (s.setPair rp w).pair rp = w := by
  cases rp <;> simp [State.setPair, State.pair, State.bc, State.de, State.hl]

theorem dcx_inx (rp : Pair) (s : State) :
    ∃ t u, exec (.inx rp) s = .next t ∧ exec (.dcx rp) t = .next u ∧ u.pair rp = s.pair rp ∧ u.flags = s.flags := by
  refine ⟨_, _, rfl, rfl, ?_, by simp⟩
  rw [State.setPair_pair, State.setPair_pair, BitVec.add_sub_cancel]

/-- Settles O59: each pair by the inverse of its operation, the repeated rotates by the width of the ring they turn. -/
theorem inverseInstructionsRestore : Obligations.InverseInstructionsRestore := by
  refine ⟨dcr_inr, dcx_inx, fun s => ⟨_, _, rfl, rfl, BitVec.not_not, rfl⟩, fun s => ⟨_, _, rfl, rfl, ?_⟩,
    fun s => ⟨_, _, rfl, rfl, ?_⟩, fun s => ⟨?_, ?_, ?_, ?_⟩⟩
  · have hr := rerun_rotateRight_rotateLeft s.a s.flags
    exact ⟨congrArg AluResult.value hr, congrArg AluResult.flags hr⟩
  · have hr := rotateRightCarry_rotateLeftCarry { value := s.a, flags := s.flags }
    exact ⟨congrArg AluResult.value hr, congrArg AluResult.flags hr⟩
  · rw [execTimes_accumulate (op := rotateLeft) (fun _ => rfl) 7, iterate_rerun_rotateLeft]
    rfl
  · rw [execTimes_accumulate (op := rotateRight) (fun _ => rfl) 7, iterate_rerun_rotateRight]
    rfl
  · rw [execTimes_accumulate (op := rotateLeftCarry) (fun _ => rfl) 8, iterate_rerun_rotateLeftCarry]
    rfl
  · rw [execTimes_accumulate (op := rotateRightCarry) (fun _ => rfl) 8, iterate_rerun_rotateRightCarry]
    rfl

end Sys2Proof.Machine
end

section
/-! The register pair instructions (42_register_pair.md R140 to R149), and the round trips through the stack (R140 to R143;
48_branching.md R240, R250). -/

namespace Sys2Proof.Machine

variable {i : Instr} {s t u : State} {v : Byte} {x y : Addr}

/-! ### Pairs of registers -/

/-- In an opcode with a pair the middle group is the pair's code and one bit more (30_encoding.md R84). -/
theorem opcode_pair (g c : BitVec 2) (b : BitVec 1) (z : BitVec 3) : opcode g (c ++ b) z = g ++ c ++ b ++ z := by
  revert g c b z; decide

theorem decodesTo_of_encode_pair {g c : BitVec 2} {b : BitVec 1} {z : BitVec 3} (hwf : i.wf = true)
    (hbytes : encode i = [opcode g (c ++ b) z]) : DecodesTo [g ++ c ++ b ++ z] i :=
  decodesTo_of_encode hwf (by rw [hbytes, opcode_pair])

theorem joinBytes_inj {h l h' l' : Byte} : joinBytes h l = joinBytes h' l' ↔ h = h' ∧ l = l' := by
  refine ⟨fun heq => ⟨?_, ?_⟩, by rintro ⟨rfl, rfl⟩; rfl⟩
  · simpa using congrArg hiByte heq
  · simpa using congrArg loByte heq

theorem hiByte_peek16 (s : State) (addr : Addr) : hiByte (s.peek16 addr) = (s.touch addr).peek (addr + 1) :=
  hiByte_joinBytes _ _

theorem loByte_peek16 (s : State) (addr : Addr) : loByte (s.peek16 addr) = s.peek addr :=
  loByte_joinBytes _ _

@[simp] theorem State.setStackPair_stackPair (s : State) (rp : StackPair) (w : Addr) :
    (s.setStackPair rp w).stackPair rp = w := by
  cases rp <;> simp [State.setStackPair, State.stackPair, State.bc, State.de, State.hl]

theorem setPair_pairReceives (n : Addr) (rp : Pair) (w : Addr) : PairReceives s ((s.advance n).setPair rp w) n rp w :=
  ⟨State.setPair_pair _ rp w, fun hrp => setPair_keepsSp rp w (by simpa using hrp), by simp, by simp,
    setPair_keepsRegisters (s := s.advance n) rp w, keepsMemory_of_mem_eq (by simp) [], by simp [KeepsControl]⟩

/-- A pair with the same value holds the same two bytes. -/
theorem keepsRegisters_of_stackPair {rp : StackPair} (hkeeps : KeepsRegisters s t (stackPairRegisters rp))
    (hpair : t.stackPair rp = s.stackPair rp) : KeepsRegisters s t [] := by
  rw [keepsRegisters_iff] at hkeeps ⊢
  cases rp
  all_goals
    obtain ⟨hhigh, hlow⟩ := joinBytes_inj.1 hpair
    simpa [stackPairRegisters, hhigh, hlow] using hkeeps

/-- Settles O24: HL is one of the pairs, and reads as the sum written to it. -/
theorem doubleAddCarriesOutOfBit15 : Obligations.DoubleAddCarriesOutOfBit15 := by
  refine fun rp s => ⟨decodesTo_of_encode_pair rfl rfl, _, rfl, ?_, rfl, exec_inSequence (i := .dad rp) rfl rfl rfl⟩
  exact (congrArg BitVec.toNat (State.setPair_pair _ .h _)).trans (BitVec.toNat_add _ _)

/-- Settles O25: both write a pair, and differ in the value alone. -/
theorem pairIncrementAndDecrement : Obligations.PairIncrementAndDecrement := fun rp s =>
  ⟨decodesTo_of_encode_pair rfl rfl, decodesTo_of_encode_pair rfl rfl,
    ⟨_, _, rfl, BitVec.toNat_add (s.pair rp) 1, setPair_pairReceives 1 rp _⟩,
    ⟨_, _, rfl, (addr_wraps (s.pair rp)).1, setPair_pairReceives 1 rp _⟩⟩

/-! ### Exchanges -/

/-- Settles O26. -/
theorem exchangeAndLoadStackPointer : Obligations.ExchangeAndLoadStackPointer := by
  refine fun s => ⟨decodesTo_of_encode rfl rfl, decodesTo_of_encode rfl rfl, ⟨_, rfl, ?_⟩, ⟨_, rfl, rfl, rfl, rfl, ?_⟩⟩
  · exact ⟨hiByte_joinBytes _ _, hiByte_joinBytes _ _, loByte_joinBytes _ _, loByte_joinBytes _ _, by simp,
      exec_inSequence (i := .xchg) rfl rfl rfl⟩
  · exact ⟨by simp [keepsRegisters_iff], keepsMemory_of_mem_eq (by simp) [], by simp [KeepsControl]⟩

/-- Two stores to different addresses: each byte stands where it was stored. -/
theorem store_store_storedAt (v w : Byte) (hne : y ≠ x) :
    StoredAt s ((s.store x v).store y w) x v ∧ StoredAt s ((s.store x v).store y w) y w := by
  constructor
  · rw [StoredAt, State.store_stored_other _ _ hne.symm, State.store_stored_same]
  · rw [StoredAt, State.store_stored_same, State.store_memKind, State.store_stored_other _ _ hne]

/-- What came before the store and after it may be anything that leaves memory alone. -/
theorem StoredAt.congr {u' : State} (h : StoredAt t u x v) (hm : t.mem = s.mem) (hp : t.plat = s.plat)
    (hm' : u'.mem = u.mem) : StoredAt s u' x v := by
  have hstored : t.stored x = s.stored x := by simp only [State.stored, hm]
  have hstored' : u'.stored x = u.stored x := by simp only [State.stored, hm']
  rwa [StoredAt, State.memKind_congr hp, hstored, ← hstored'] at h

/-- Settles O27: the two stores are to different addresses, so the bytes of both stand. -/
theorem exchangeTopOfStackWithHL : Obligations.ExchangeTopOfStackWithHL := by
  intro s
  obtain ⟨hhigh, hlow⟩ :=
    store_store_storedAt (s := (s.advance 1).touch16 s.sp) (x := s.sp + 1) s.h s.l (addr_ne_succ s.sp)
  refine ⟨decodesTo_of_encode rfl rfl, _, rfl, loByte_peek16 s s.sp, hiByte_peek16 s s.sp, ?_, ?_, by simp, ?_⟩
  · exact hlow.congr (by simp) (by simp) (by simp)
  · exact hhigh.congr (by simp) (by simp) (by simp)
  · exact exec_inSequence (i := .xthl) rfl rfl rfl

/-! ### PUSH and POP -/

/-- What PUSH does with a word, whatever the word is of (20_memory.md R73). -/
theorem advance_push16_spec (n w : Addr) :
    Pushes s ((s.advance n).push16 w) w ∧ ((s.advance n).push16 w).pc = s.pc + n ∧
      ((s.advance n).push16 w).flags = s.flags ∧ KeepsRegisters s ((s.advance n).push16 w) [] ∧
      KeepsControl s ((s.advance n).push16 w) :=
  ⟨push16_pushes (s := s.advance n) w, by simp [keepsRegisters_iff, KeepsControl]⟩

/-- Settles O22: both push a word after PC has moved. -/
theorem pushStoresPairOrStatus : Obligations.PushStoresPairOrStatus := fun rp s =>
  ⟨decodesTo_of_encode_pair rfl rfl, decodesTo_of_encode rfl rfl, ⟨_, rfl, advance_push16_spec 1 (s.stackPair rp)⟩,
    ⟨rfl, rfl, rfl⟩, ⟨_, rfl, advance_push16_spec 1 s.psw⟩⟩

/-- Settles O23. -/
theorem popLoadsPairOrStatus : Obligations.PopLoadsPairOrStatus := by
  refine fun rp s => ⟨decodesTo_of_encode_pair rfl rfl, decodesTo_of_encode rfl rfl, ⟨_, rfl, ?_⟩, ⟨_, rfl, ?_⟩⟩
  · exact ⟨State.setStackPair_stackPair _ rp _, by simp, by simp, by simp, exec_keepsRegisters (i := .pop rp) rfl,
      keepsMemory_of_mem_eq (by simp) [], by simp [KeepsControl]⟩
  · exact ⟨hiByte_peek16 s s.sp, congrArg flagsOfByte (loByte_peek16 s s.sp), rfl, by simp,
      exec_keepsRegisters (i := .popPsw) rfl, keepsMemory_of_mem_eq (by simp) [], by simp [KeepsControl]⟩

/-! ### Through the stack and back -/

/-- With RAM at both addresses, what was pushed is on top of the stack, however the push came about. -/
theorem Pushes.peek16 {w : Addr} (h : Pushes s t w) (hp : t.plat = s.plat) (hhi : s.memKind (s.sp - 1) = .ram)
    (hlo : s.memKind (s.sp - 2) = .ram) : t.peek16 t.sp = w := by
  obtain ⟨hsp, hhigh, hlow, _⟩ := h
  rw [StoredAt, if_pos hhi] at hhigh
  rw [StoredAt, if_pos hlo] at hlow
  rw [← State.memKind_congr hp] at hhi hlo
  rw [← addr_sub_two_add_one] at hhi hhigh
  rw [hsp]
  exact State.peek16_of_stored (State.fitted_of_ram hlo) (State.fitted_of_ram hhi) hlow hhigh

theorem Pushes.sp_add_two {w : Addr} (h : Pushes s t w) : t.sp + 2 = s.sp := by
  obtain ⟨hsp, _⟩ := h
  rw [hsp, BitVec.sub_add_cancel]

/-- PUSH and then POP of one pair, from what each does (R140, R142). -/
theorem pop_push (hhi : s.memKind (s.sp - 1) = .ram) (hlo : s.memKind (s.sp - 2) = .ram) (rp : StackPair) :
    ∃ t u, exec (.push rp) s = .next t ∧ exec (.pop rp) t = .next u ∧ u.stackPair rp = s.stackPair rp ∧
      u.sp = s.sp ∧ u.flags = s.flags ∧ KeepsRegisters s u [] ∧ KeepsMemory t u [] := by
  obtain ⟨_, _, ⟨t, hpush, hpushes, _, htflags, htregs, _, _, _, _, hplat, _⟩, _⟩ := pushStoresPairOrStatus rp s
  obtain ⟨_, _, ⟨u, hpop, hpair, husp, _, huflags, huregs, humem, _⟩, _⟩ := popLoadsPairOrStatus rp t
  have hback : u.stackPair rp = s.stackPair rp := hpair.trans (hpushes.peek16 hplat hhi hlo)
  exact ⟨t, u, hpush, hpop, hback, husp.trans hpushes.sp_add_two, huflags.trans htflags,
    keepsRegisters_of_stackPair (htregs.trans huregs (List.nil_subset _)) hback, humem⟩

/-- PUSH PSW and then POP PSW: the flag byte read back gives the five flags it was made of (R141, R143). -/
theorem popPsw_pushPsw (hhi : s.memKind (s.sp - 1) = .ram) (hlo : s.memKind (s.sp - 2) = .ram) :
    ∃ t u, exec .pushPsw s = .next t ∧ exec .popPsw t = .next u ∧ u.a = s.a ∧ u.flags = s.flags ∧ u.sp = s.sp ∧
      KeepsRegisters s u [] := by
  obtain ⟨_, _, _, _, t, hpush, hpushes, _, _, htregs, _, _, _, _, hplat, _⟩ := pushStoresPairOrStatus .b s
  obtain ⟨_, _, _, u, hpop, ha, hflags, husp, _, huregs, _⟩ := popLoadsPairOrStatus .b t
  obtain ⟨hhigh, hlow⟩ := joinBytes_inj.1 (hpushes.peek16 hplat hhi hlo)
  have hback : u.a = s.a := ha.trans hhigh
  refine ⟨t, u, hpush, hpop, hback, ?_, husp.trans hpushes.sp_add_two, ?_⟩
  · exact hflags.trans ((congrArg flagsOfByte hlow).trans (flagsOfByte_flagsByte s.flags))
  · have hkeeps := htregs.trans huregs (List.nil_subset _)
    rw [keepsRegisters_iff] at hkeeps ⊢
    simpa [hback] using hkeeps

/-- CALL and then RET: the return address pushed is the one popped (48_branching.md R240, R250). -/
theorem ret_call (hhi : s.memKind (s.sp - 1) = .ram) (hlo : s.memKind (s.sp - 2) = .ram) (addr16 : Addr) :
    ∃ t u, exec (.call addr16) s = .next t ∧ exec .ret t = .next u ∧ u.pc = s.pc + 3 ∧ u.sp = s.sp ∧
      u.flags = s.flags ∧ KeepsRegisters s u [] := by
  obtain ⟨hpushes, _, htflags, htregs, _, _, _, _, hplat, _⟩ := callTo_callsTo (s := s) 3 addr16
  obtain ⟨hpc, husp, huflags, huregs, _⟩ := returnFrom_returnsFrom (s := (s.advance 3).callTo addr16) 1
  exact ⟨_, _, rfl, rfl, hpc.trans (hpushes.peek16 hplat hhi hlo), husp.trans hpushes.sp_add_two,
    huflags.trans htflags, htregs.trans huregs (List.Subset.refl _)⟩

/-- Settles O60. -/
theorem stackRoundTrips : Obligations.StackRoundTrips := fun _ hhi hlo =>
  ⟨pop_push hhi hlo, popPsw_pushPsw hhi hlo, ret_call hhi hlo⟩

end Sys2Proof.Machine
end

section
/-! The rotates bit by bit (43_rotate_accumulator.md R160 to R163). RLC and RAL move A up by one place and differ in the bit
that comes in at the bottom; RRC and RAR move it down and differ in the bit that comes in at the top. -/

namespace Sys2Proof.Machine

theorem rotateLeftCarry_getLsbD_succ (a : Byte) (f : Flags) {k : Nat} (hk : k < 7) :
    (rotateLeftCarry a f).value.getLsbD (k + 1) = a.getLsbD k := by
  rw [rotateLeftCarry_value, BitVec.getLsbD_concat_succ, BitVec.getLsbD_setWidth, decide_eq_true hk, Bool.true_and]

theorem rotateLeftCarry_getLsbD_zero (a : Byte) (f : Flags) : (rotateLeftCarry a f).value.getLsbD 0 = f.cy := by
  rw [rotateLeftCarry_value, BitVec.getLsbD_concat_zero]

theorem rotateRightCarry_getLsbD_of_lt (a : Byte) (f : Flags) {k : Nat} (hk : k < 7) :
    (rotateRightCarry a f).value.getLsbD k = a.getLsbD (k + 1) := by
  rw [rotateRightCarry_value, BitVec.getLsbD_cons, if_neg hk.ne, BitVec.getLsbD_extractLsb', decide_eq_true hk,
    Bool.true_and, Nat.add_comm]

theorem rotateRightCarry_getLsbD_top (a : Byte) (f : Flags) : (rotateRightCarry a f).value.getLsbD 7 = f.cy := by
  rw [rotateRightCarry_value, BitVec.getLsbD_cons, if_pos rfl]

/-- RLC is RAL with bit 7 for the old CY. -/
theorem rotateLeft_eq_rotateLeftCarry (a : Byte) (f : Flags) :
    rotateLeft a f = rotateLeftCarry a { f with cy := a.getLsbD 7 } := rfl

/-- RRC is RAR with bit 0 for the old CY. -/
theorem rotateRight_eq_rotateRightCarry (a : Byte) (f : Flags) :
    rotateRight a f = rotateRightCarry a { f with cy := a.getLsbD 0 } := rfl

/-- Settles O28: RAL and RAR bit by bit, RLC and RRC as RAL and RAR with another bit coming in. -/
theorem rotatesMoveEachBit : Obligations.RotatesMoveEachBit := by
  refine fun s => ⟨decodesTo_of_encode rfl rfl, decodesTo_of_encode rfl rfl, decodesTo_of_encode rfl rfl,
    decodesTo_of_encode rfl rfl, ⟨_, rfl, ?rlc⟩, ⟨_, rfl, ?rrc⟩, ⟨_, rfl, ?ral⟩, ⟨_, rfl, ?rar⟩⟩
  case rlc =>
    rw [rotateLeft_eq_rotateLeftCarry]
    exact ⟨fun _ => rotateLeftCarry_getLsbD_succ s.a _, rotateLeftCarry_getLsbD_zero s.a _, rfl,
      exec_inSequence (i := .rlc) rfl rfl rfl⟩
  case rrc =>
    rw [rotateRight_eq_rotateRightCarry]
    exact ⟨fun _ => rotateRightCarry_getLsbD_of_lt s.a _, rotateRightCarry_getLsbD_top s.a _, rfl,
      exec_inSequence (i := .rrc) rfl rfl rfl⟩
  case ral =>
    exact ⟨fun _ => rotateLeftCarry_getLsbD_succ s.a s.flags, rotateLeftCarry_getLsbD_zero s.a s.flags, rfl,
      exec_inSequence (i := .ral) rfl rfl rfl⟩
  case rar =>
    exact ⟨fun _ => rotateRightCarry_getLsbD_of_lt s.a s.flags, rotateRightCarry_getLsbD_top s.a s.flags, rfl,
      exec_inSequence (i := .rar) rfl rfl rfl⟩

end Sys2Proof.Machine
end

section
/-! The data transfers (44_data_transfer.md R170 to R172): MOV, STAX, LDAX. -/

namespace Sys2Proof.Machine

variable {i : Instr} {s u : State}

/-! ### MOV -/

/-- A write to an operand arrives, whatever reads and moves came between, as long as they left memory and HL alone. -/
theorem setOperand_receives_after (hm : u.mem = s.mem) (hp : u.plat = s.plat) (hhl : u.hl = s.hl) (r : Reg8) (v : Byte) :
    Receives s (u.setOperand r v) r v := by
  by_cases hr : r = .m
  · subst hr
    rw [Receives, if_pos rfl, State.setOperand, hhl]
    exact store_storedAt_after hm hp s.hl v
  · rw [Receives, if_neg hr, u.setOperand_same r v hr]

/-- Settles O29: the one pair of operands shut out is the one whose byte is HLT's. -/
theorem moveCopiesAByte : Obligations.MoveCopiesAByte := by
  intro dst src s hm
  have hwf : (Instr.mov dst src).wf = true := wf_iff_ne_mov_m_m.2 (by simpa using hm)
  refine ⟨decodesTo_of_encode hwf rfl, _, rfl, ?_, by simp, exec_inSequence (i := .mov dst src) rfl rfl rfl⟩
  exact setOperand_receives_after (by simp) (by simp) (by simp [State.hl]) dst _

/-! ### STAX and LDAX -/

/-- In an opcode with BC or DE the middle group is a 0, the pair's code and one bit more (30_encoding.md R84). -/
theorem opcode_indexPair (c b : BitVec 1) (z : BitVec 3) :
    opcode 0b00 (0#1 ++ c ++ b) z = 0b000#3 ++ c ++ (b ++ z) := by
  revert c b z; decide

theorem decodesTo_of_encode_indexPair {c b : BitVec 1} {z : BitVec 3} (hwf : i.wf = true)
    (hbytes : encode i = [opcode 0b00 (0#1 ++ c ++ b) z]) : DecodesTo [0b000#3 ++ c ++ (b ++ z)] i :=
  decodesTo_of_encode hwf (by rw [hbytes, opcode_indexPair])

/-- Settles O30. -/
theorem storeAndLoadThroughPair : Obligations.StoreAndLoadThroughPair := fun x s =>
  ⟨decodesTo_of_encode_indexPair (b := 0#1) (z := 0b010) rfl rfl,
    decodesTo_of_encode_indexPair (b := 1#1) (z := 0b010) rfl rfl, ⟨rfl, rfl⟩,
    ⟨_, rfl, store_storedAt_after (by simp) (by simp) (s.indexPair x) s.a, by simp,
      exec_inSequence (i := .stax x) rfl rfl rfl⟩,
    ⟨_, rfl, rfl, by simp, exec_inSequence (i := .ldax x) rfl rfl rfl⟩⟩

end Sys2Proof.Machine
end

section
/-! The register/memory to accumulator instructions (45_register_memory_to_accumulator.md R180 to R187): ADD, ADC, SUB, SBB,
ANA, XRA, ORA, CMP. -/

namespace Sys2Proof.Machine

/-! ### What the results say -/

/-- S, Z, P of the result, CY cleared, AC as given, for whichever of AND, exclusive OR and OR (R184 to R186). -/
theorem logicResult_isLogical (value : Byte) (ac : Bool) :
    IsLogical value (logicResult value ac).value ac (logicResult value ac).flags :=
  ⟨rfl, rfl, rfl, setSzp_resultFlags _ _⟩

/-- AC is taken from the operands as they were before the AND (R184). -/
theorem and8_isLogical (a v : Byte) :
    IsLogical (a &&& v) (and8 a v).value (a.getLsbD 3 || v.getLsbD 3) (and8 a v).flags := by
  rw [← BitVec.getLsbD_or]
  exact logicResult_isLogical (a &&& v) ((a ||| v).getLsbD 3)

theorem xor8_isLogical (a v : Byte) : IsLogical (a ^^^ v) (xor8 a v).value false (xor8 a v).flags :=
  logicResult_isLogical (a ^^^ v) false

theorem or8_isLogical (a v : Byte) : IsLogical (a ||| v) (or8 a v).value false (or8 a v).flags :=
  logicResult_isLogical (a ||| v) false

/-- Z of a comparison: a difference without borrow in is 0 exactly between equal bytes (R187). -/
theorem IsDifference.z_iff_eq {a b res : Byte} {f : Flags} (h : IsDifference a b false res f) : f.z = true ↔ a = b := by
  obtain ⟨hvalue, _, _, _, hz, _⟩ := h
  rw [Bool.toNat_false] at hvalue
  rw [hz, decide_eq_true_iff]
  bv_omega

/-! ### The three groups of instructions -/

/-- Settles O31. -/
theorem addWithAndWithoutCarry : Obligations.AddWithAndWithoutCarry := fun src s =>
  ⟨decodesTo_of_encode rfl rfl, decodesTo_of_encode rfl rfl,
    ⟨_, rfl, add8_isSum s.a (s.operand src) false, exec_inSequence (i := .add src) rfl rfl rfl⟩,
    ⟨_, rfl, add8_isSum s.a (s.operand src) s.flags.cy, exec_inSequence (i := .adc src) rfl rfl rfl⟩⟩

/-- Settles O32: the result that CMP discards is that of SUB. -/
theorem subtractAndCompare : Obligations.SubtractAndCompare := fun src s =>
  have difference := sub8_isDifference s.a (s.operand src)
  ⟨decodesTo_of_encode rfl rfl, decodesTo_of_encode rfl rfl, decodesTo_of_encode rfl rfl,
    ⟨_, rfl, difference false, exec_inSequence (i := .sub src) rfl rfl rfl⟩,
    ⟨_, rfl, difference s.flags.cy, exec_inSequence (i := .sbb src) rfl rfl rfl⟩,
    ⟨_, _, rfl, difference false, (difference false).z_iff_eq, exec_inSequence (i := .cmp src) rfl rfl rfl⟩⟩

/-- Settles O33. -/
theorem logicalOperations : Obligations.LogicalOperations := fun src s =>
  ⟨decodesTo_of_encode rfl rfl, decodesTo_of_encode rfl rfl, decodesTo_of_encode rfl rfl,
    ⟨_, rfl, and8_isLogical s.a (s.operand src), exec_inSequence (i := .ana src) rfl rfl rfl⟩,
    ⟨_, rfl, xor8_isLogical s.a (s.operand src), exec_inSequence (i := .xra src) rfl rfl rfl⟩,
    ⟨_, rfl, or8_isLogical s.a (s.operand src), exec_inSequence (i := .ora src) rfl rfl rfl⟩⟩

end Sys2Proof.Machine
end

section
/-! The direct addressing instructions (46_direct_addressing.md R200 to R203): STA, LDA, SHLD, LHLD. -/

namespace Sys2Proof.Machine

/-- A word stored after moves that left memory alone: low byte first, and the two addresses always differ, at 0xFFFF too
(20_memory.md R58). -/
theorem store16_storedAt_after {s u : State} (hm : u.mem = s.mem) (hp : u.plat = s.plat) (addr w : Addr) :
    StoredAt s (u.store16 addr w) addr (loByte w) ∧ StoredAt s (u.store16 addr w) (addr + 1) (hiByte w) :=
  have ⟨hlow, hhigh⟩ := store_store_storedAt (s := u) (loByte w) (hiByte w) (addr_ne_succ addr).symm
  ⟨hlow.congr hm hp rfl, hhigh.congr hm hp rfl⟩

/-- Settles O34: SHLD is the store of the word HL, whose bytes are L and H. -/
theorem directStores : Obligations.DirectStores := by
  intro addr16 s
  obtain ⟨hlow, hhigh⟩ := store16_storedAt_after (s := s) (u := s.advance 3) rfl rfl addr16 s.hl
  rw [State.hl, loByte_joinBytes] at hlow
  rw [State.hl, hiByte_joinBytes] at hhigh
  refine ⟨decodesTo_of_encode rfl rfl, decodesTo_of_encode rfl rfl, ⟨_, rfl, ?_⟩, ⟨_, rfl, hlow, hhigh, ?_⟩⟩
  · exact ⟨store_storedAt_after rfl rfl addr16 s.a, by simp, exec_inSequence (i := .sta addr16) rfl rfl rfl⟩
  · exact ⟨by simp, exec_inSequence (i := .shld addr16) rfl rfl rfl⟩

/-- Settles O35: what LHLD loads is the word read at the address, whatever HL was before. -/
theorem directLoads : Obligations.DirectLoads := by
  refine fun addr16 s => ⟨decodesTo_of_encode rfl rfl, decodesTo_of_encode rfl rfl, ⟨_, rfl, rfl, ?_⟩, ⟨_, rfl, ?_⟩⟩
  · exact ⟨by simp, exec_inSequence (i := .lda addr16) rfl rfl rfl⟩
  · exact ⟨loByte_peek16 s addr16, hiByte_peek16 s addr16, by simp, exec_inSequence (i := .lhld addr16) rfl rfl rfl⟩

end Sys2Proof.Machine
end

section
/-! The immediate instructions (47_immediate.md R210 to R219): LXI, MVI, and the accumulator instructions with the operand in
byte 2, whose results are those of the register forms (R180 to R187). -/

namespace Sys2Proof.Machine

/-! ### LXI and MVI -/

/-- Settles O36: LXI is a write to a pair, MVI a write to an operand, for M without a read of the byte at HL. -/
theorem immediateLoads : Obligations.ImmediateLoads := by
  intro rp dst data16 data8 s
  refine ⟨decodesTo_of_encode rfl ?_, decodesTo_of_encode rfl rfl, ⟨_, rfl, setPair_pairReceives 3 rp data16⟩,
    ⟨_, rfl, ?_, by simp, exec_inSequence (i := .mvi dst data8) rfl rfl rfl⟩⟩
  · exact congrArg (· :: [loByte data16, hiByte data16]) (opcode_pair 0b00 rp.code 0#1 0b001)
  · exact setOperand_receives_after (by simp) (by simp) (by simp [State.hl]) dst data8

/-! ### The three groups of accumulator instructions -/

/-- Settles O37. -/
theorem addImmediate : Obligations.AddImmediate := fun data8 s =>
  ⟨decodesTo_of_encode rfl rfl, decodesTo_of_encode rfl rfl,
    ⟨_, rfl, add8_isSum s.a data8 false, exec_inSequence (i := .adi data8) rfl rfl rfl⟩,
    ⟨_, rfl, add8_isSum s.a data8 s.flags.cy, exec_inSequence (i := .aci data8) rfl rfl rfl⟩⟩

/-- Settles O38: the result that CPI discards is that of SUI. -/
theorem subtractAndCompareImmediate : Obligations.SubtractAndCompareImmediate := fun data8 s =>
  have difference := sub8_isDifference s.a data8
  ⟨decodesTo_of_encode rfl rfl, decodesTo_of_encode rfl rfl, decodesTo_of_encode rfl rfl,
    ⟨_, rfl, difference false, exec_inSequence (i := .sui data8) rfl rfl rfl⟩,
    ⟨_, rfl, difference s.flags.cy, exec_inSequence (i := .sbi data8) rfl rfl rfl⟩,
    ⟨_, _, rfl, difference false, (difference false).z_iff_eq, exec_inSequence (i := .cpi data8) rfl rfl rfl⟩⟩

/-- Settles O39. -/
theorem logicalImmediate : Obligations.LogicalImmediate := fun data8 s =>
  ⟨decodesTo_of_encode rfl rfl, decodesTo_of_encode rfl rfl, decodesTo_of_encode rfl rfl,
    ⟨_, rfl, and8_isLogical s.a data8, exec_inSequence (i := .ani data8) rfl rfl rfl⟩,
    ⟨_, rfl, xor8_isLogical s.a data8, exec_inSequence (i := .xri data8) rfl rfl rfl⟩,
    ⟨_, rfl, or8_isLogical s.a data8, exec_inSequence (i := .ori data8) rfl rfl rfl⟩⟩

end Sys2Proof.Machine
end

section
/-! The branching instructions (48_branching.md R230 to R258): every one is PCHL, JMP, CALL or RET, or the jump, the call or
the return of one condition. -/

namespace Sys2Proof.Machine

variable {i : Instr} {s : State}

/-! ### Jumps -/

/-- Settles O40. -/
theorem unconditionalJumps : Obligations.UnconditionalJumps := fun addr16 s =>
  ⟨decodesTo_of_encode rfl rfl, decodesTo_of_encode rfl rfl, ⟨_, rfl, setPc_jumpsTo 1 s.hl⟩,
    ⟨_, rfl, setPc_jumpsTo 3 addr16⟩⟩

theorem jumpsWhen_of_jumpIf {bytes : List Byte} {target : Addr} (cond : Cond) (hbytes : DecodesTo bytes i)
    (h : exec i s = .next ((s.advance 3).jumpIf cond target)) :
    JumpsWhen s bytes i target (condHolds cond s.flags) :=
  ⟨hbytes, _, h, jumpIf_jumpsTo cond 3 target⟩

/-- Settles O41: each instruction is the jump of its condition, which is a test of one flag (10_state.md R32). -/
theorem conditionalJumps : Obligations.ConditionalJumps := by
  intro addr16 s
  refine ⟨jumpsWhen_of_jumpIf .c ?_ rfl, jumpsWhen_of_jumpIf .nc ?_ rfl, jumpsWhen_of_jumpIf .z ?_ rfl,
    jumpsWhen_of_jumpIf .nz ?_ rfl, jumpsWhen_of_jumpIf .m ?_ rfl, jumpsWhen_of_jumpIf .p ?_ rfl,
    jumpsWhen_of_jumpIf .pe ?_ rfl, jumpsWhen_of_jumpIf .po ?_ rfl⟩
  all_goals exact decodesTo_of_encode rfl rfl

/-! ### Calls -/

theorem callsWhen_of_callIf {bytes : List Byte} {target : Addr} (cond : Cond) (hbytes : DecodesTo bytes i)
    (h : exec i s = .next ((s.advance 3).callIf cond target)) :
    CallsWhen s bytes i target (condHolds cond s.flags) :=
  ⟨hbytes, _, h, callIf_callsTo cond 3 target⟩

/-- Settles O42: CALL, then each instruction as the call of its condition. -/
theorem calls : Obligations.Calls := by
  intro addr16 s
  refine ⟨⟨?_, _, rfl, callTo_callsTo 3 addr16⟩, callsWhen_of_callIf .c ?_ rfl, callsWhen_of_callIf .nc ?_ rfl,
    callsWhen_of_callIf .z ?_ rfl, callsWhen_of_callIf .nz ?_ rfl, callsWhen_of_callIf .m ?_ rfl,
    callsWhen_of_callIf .p ?_ rfl, callsWhen_of_callIf .pe ?_ rfl, callsWhen_of_callIf .po ?_ rfl⟩
  all_goals exact decodesTo_of_encode rfl rfl

/-! ### Returns -/

theorem returnsWhen_of_returnIf {bytes : List Byte} (cond : Cond) (hbytes : DecodesTo bytes i)
    (h : exec i s = .next ((s.advance 1).returnIf cond)) : ReturnsWhen s bytes i (condHolds cond s.flags) :=
  ⟨hbytes, _, h, returnIf_returnsFrom cond 1⟩

/-- Settles O43: RET, then each instruction as the return of its condition. -/
theorem returns : Obligations.Returns := by
  intro s
  refine ⟨⟨?_, _, rfl, returnFrom_returnsFrom 1⟩, returnsWhen_of_returnIf .c ?_ rfl, returnsWhen_of_returnIf .nc ?_ rfl,
    returnsWhen_of_returnIf .z ?_ rfl, returnsWhen_of_returnIf .nz ?_ rfl, returnsWhen_of_returnIf .m ?_ rfl,
    returnsWhen_of_returnIf .p ?_ rfl, returnsWhen_of_returnIf .pe ?_ rfl, returnsWhen_of_returnIf .po ?_ rfl⟩
  all_goals exact decodesTo_of_encode rfl rfl

end Sys2Proof.Machine
end

section
/-! Faults, reset, interrupts and the end of a run (60_exceptions.md R270 to R286; 70_reset_and_hazards.md R300): what `step`
answers in each of its cases, and the return from a handler (R281). -/

namespace Sys2Proof.Machine

variable {s t : State}

/-! ### The fault -/

/-- There is no step from a FAULT state (60_exceptions.md R270). -/
theorem step_of_fault {r : Fault} (hf : s.fault = some r) : step s = .fault r := by
  simp [step, hf]

/-- Each of the twelve bytes decodes to its own instruction, whatever follows it, and asks for no further byte. -/
theorem undefinedRows_decode {row : Byte × Instr} (hrow : row ∈ undefinedRows) :
    opcodeLength row.1 = 1 ∧ ∀ byte2 byte3, decodeBytes row.1 byte2 byte3 = row.2 := by
  simp only [undefinedRows, List.mem_cons, List.not_mem_nil, or_false] at hrow
  rcases hrow with rfl | rfl | rfl | rfl | rfl | rfl | rfl | rfl | rfl | rfl | rfl | rfl <;> exact ⟨rfl, fun _ _ => rfl⟩

/-- With the aliases on no instruction raises a fault, the twelve bytes included (30_encoding.md R96). -/
theorem exec_keepsFault_of_aliases (i : Instr) (ha : s.plat.undocAliases = true) :
    ∃ t, exec i s = .next t ∧ t.fault = s.fault := by
  obtain ⟨t, h⟩ := exec_answers i s
  exact ⟨t, h, (exec_controlFrame h).fault fun _ => ha⟩

/-- The step that fetches one of the twelve at PC ends in its fault. -/
theorem step_raises {row : Byte × Instr} (hrow : row ∈ undefinedRows) (ha : s.plat.undocAliases = false)
    (hrun : s.Running) (hfit : s.memKind s.pc ≠ .none) (hop : s.stored s.pc = row.1) :
    step s = .next (s.passBoundary.raiseUndefined row.1) := by
  obtain ⟨hlen, hdec⟩ := undefinedRows_decode hrow
  have hread : s.passBoundary.peek s.passBoundary.pc = row.1 ∧
      s.passBoundary.touch s.passBoundary.pc = s.passBoundary := by
    rw [← hop, State.passBoundary_eq]
    exact State.peek_of_fitted _ hfit
  obtain ⟨hpeek, htouch⟩ := hread
  obtain ⟨-, ⟨hone, -⟩, -⟩ := stepRunsDecodedInstruction s hrun
  have hstep := hone (by rw [hpeek, hlen])
  rw [hpeek, hdec, htouch] at hstep
  exact hstep.trans (exec_raises hrow (by simpa using ha))

/-- Settles O44. -/
theorem undefinedOpcodeRaisesStickyFault : Obligations.UndefinedOpcodeRaisesStickyFault := by
  refine ⟨fun row hrow s => ?_, fun s r => step_of_fault⟩
  obtain ⟨-, hdec⟩ := undefinedRows_decode hrow
  refine ⟨hdec, exec_raises hrow, exec_keepsFault_of_aliases row.2, fun ha hrun hfit hop => ?_⟩
  rw [step_raises hrow ha hrun hfit hop, State.passBoundary_eq]
  rfl

/-! ### Reset and the final states -/

/-- Settles O49. -/
theorem resetStep : Obligations.ResetStep := by
  refine fun s hr => ⟨fun hf => ?_, fun r => step_of_fault⟩
  rw [step_of_reset hf hr, State.passBoundary_eq]
  rfl

/-- Settles O51: a final state is halted with interrupts off, so without a reset it idles. -/
theorem finalStateIsStable : Obligations.FinalStateIsStable := by
  rintro s ⟨hhalted, hinte, hfault⟩ hreset
  exact ⟨_, step_of_idle hfault hhalted hreset (State.acceptable_of_inte_false hinte), ⟨hhalted, hinte, hfault⟩, rfl⟩

/-! ### Interrupts -/

/-- The acceptance condition fails in one of its three parts (60_exceptions.md R277). -/
theorem State.acceptable_eq_none (h : s.inte = false ∨ s.eiShadow = true ∨ s.boundary.request = none) :
    s.acceptable = none := by
  rcases h with hinte | hei | hrequest
  · exact State.acceptable_of_inte_false hinte
  · exact State.acceptable_of_eiShadow hei
  · simp [State.acceptable, hrequest]

theorem step_of_not_acceptable (hf : s.fault = none) (hr : s.boundary.reset = false) (hn : s.acceptable = none) :
    step s = if s.halted then .next s.passBoundary else runNext s.passBoundary := by
  simp [step, hf, hr, hn]

/-- Settles O47. -/
theorem interruptAcceptance : Obligations.InterruptAcceptance := by
  refine fun s hf hr => ⟨fun n hinte hei hrequest => ?_, fun h => ?_⟩
  · have hn : s.acceptable = some n := (State.acceptable_eq_some n).2 ⟨hinte, hei, hrequest⟩
    obtain ⟨htinte, hthalted, htei, -, -⟩ := s.passBoundary.acceptInterrupt_spec n
    obtain ⟨-, hpc, hpushes⟩ := passBoundary_acceptInterrupt_spec s n
    exact ⟨_, step_of_acceptable hf hr hn, htinte, hthalted, htei, hpc, hpushes, by simp, by simp [keepsRegisters_iff],
      by simpa using hf, by simp, by simp⟩
  · exact step_of_not_acceptable hf hr (State.acceptable_eq_none h)

/-! ### The return from a handler -/

/-- A RET with a pushed word on top of the stack goes there and gives the stack back, whatever else came after the push. -/
theorem exec_ret_of_pushes {w : Addr} (hpushes : Pushes s t w) (hp : t.plat = s.plat)
    (hhi : s.memKind (s.sp - 1) = .ram) (hlo : s.memKind (s.sp - 2) = .ram) :
    ∃ u, exec .ret t = .next u ∧ u.pc = w ∧ u.sp = s.sp ∧ u.flags = t.flags ∧ KeepsRegisters t u [] ∧
      KeepsMemory s u [s.sp - 1, s.sp - 2] ∧ KeepsControl t u := by
  have ⟨_, _, _, hothers⟩ := hpushes
  obtain ⟨hpc, hsp, hflags, hregs, hmem, hcontrol⟩ := returnFrom_returnsFrom (s := t) 1
  exact ⟨_, rfl, hpc.trans (hpushes.peek16 hp hhi hlo), hsp.trans hpushes.sp_add_two, hflags, hregs,
    fun x hx => (hmem x nofun).trans (hothers x hx), hcontrol⟩

/-- An EI as the handler's first instruction leaves on the stack the address that acceptance pushed, and its shadow holds off
the next interrupt (60_exceptions.md R281). -/
theorem exec_ei_of_acceptInterrupt (s : State) (n : BitVec 3) :
    ∃ t, exec .ei (s.acceptInterrupt n) = .next t ∧ t.acceptable = none ∧ Pushes s t s.pc ∧ t.inte = true ∧
      t.halted = false ∧ t.flags = s.flags ∧ KeepsRegisters s t [] ∧ t.plat = s.plat := by
  obtain ⟨_, _, hei, _, hheld⟩ := enableAndDisableInterrupts (s.acceptInterrupt n)
  obtain ⟨_, hhalted, _⟩ := s.acceptInterrupt_spec n
  exact ⟨_, hei, hheld _ (.inl hei), acceptInterrupt_pushes n, rfl, hhalted, by simp, by simp [keepsRegisters_iff], by simp⟩

/-- Settles O52. -/
theorem handlerReturnsWhereItWasEntered : Obligations.HandlerReturnsWhereItWasEntered := by
  intro s n hhi hlo
  obtain ⟨t, hei, hheld, hpushes, hinte, hhalted, hflags, hregs, hplat⟩ := exec_ei_of_acceptInterrupt s n
  obtain ⟨u, hret, hpc, hsp, huflags, huregs, hmem, huinte, huhalted, _, _, _, hushadow⟩ :=
    exec_ret_of_pushes hpushes hplat hhi hlo
  exact ⟨t, u, hei, hheld, hret, hpc, hsp, huinte.trans hinte, hushadow, huhalted.trans hhalted, huflags.trans hflags,
    hregs.trans huregs (List.Subset.refl _), hmem⟩

end Sys2Proof.Machine
end
